-- ==== Sys2Proof/Word.lean ====
section
/-! DEFINITION. The operation word and the byte of its serialised form (30_encoding.md R80, 20_memory.md R64). -/

namespace Sys2Proof

/-- An operation word: 32 bits, opcode in 31:24, argument in 23:0 (R80). -/
abbrev Word := BitVec 32

/-- A byte of a serialised operation word (R64). -/
abbrev Byte := BitVec 8

end Sys2Proof
end

