-- ==== Sys2Proof/Config.lean ====
section
/-! DEFINITION. The configuration record `CFG` (00_scope.md R7, R8), the entities it is made of (DriveConfig,
StatusCode, 10_state.md R33, R35), its constraints, and the two instances `REFCFG` and `TESTCFG`. -/

namespace Sys2Proof

/-- The range of a DriveConfig, "range{Low,Med,High}" (10_state.md R33). -/
inductive Range
  | low
  | med
  | high
deriving DecidableEq, Repr, Inhabited

/-- The two status codes, `Break` and `Lock` (10_state.md R35). -/
inductive StatusCode
  | brk
  | lock
deriving DecidableEq, Repr, Inhabited

/-- A DriveConfig: eight stage strengths of 2 bits, a divider of 6 bits, a range (10_state.md R33). -/
structure DriveConfig where
  ds  : Vector (BitVec 2) 8
  div : BitVec 6
  rng : Range
deriving DecidableEq, Repr

/-- A DriveConfig is valid when its divider is 1 to 32: every 2-bit strength and every range is legal
by its type (10_state.md R33). -/
abbrev DriveConfig.Valid (d : DriveConfig) : Prop := 1 ≤ d.div.toNat ∧ d.div.toNat ≤ 32

/-- The control law `CFG.LAW`, as plain data (42_oscillator_controller.md R160): the reference law `REFLAW` of
R161, or any other law written as a table of (DriveConfig, window sum, result). The pairs a law can be asked about
are finitely many, so every law of R160 is some table. DESIGN CHOICE (log entry 2), safe. -/
inductive Law
  | reference
  | table (rows : List (DriveConfig × Nat × DriveConfig))
deriving DecidableEq, Repr

/-- `CFG` (00_scope.md R8), one field per row of its table, in its order. -/
structure Config where
  /-- `W`: width in bits of `TICK` and of every timestamp. -/
  w : Nat
  /-- `E`: expected bit time in ticks at the target. -/
  e : Nat
  /-- `T_MID`: bit-decode threshold in ticks. -/
  tMid : Nat
  /-- `N`: accepted samples per window. -/
  n : Nat
  /-- `GLITCH_PCT`: half-width of the glitch band in percent of the running mean. -/
  glitchPct : Nat
  /-- `TOL_PCT`: lock tolerance in percent, fixed 2. -/
  tolPct : Nat
  /-- `TARGET_KHZ`: target frequency in kHz, fixed 100000. -/
  targetKhz : Nat
  /-- `M`: consecutive windows for lock-in and for demotion. -/
  m : Nat
  /-- `MAX_ATTEMPTS`: attempt budget. -/
  maxAttempts : Nat
  /-- `FRAME_BITS`: samples per frame boundary, fixed 32. -/
  frameBits : Nat
  /-- `CODE_LEN`: symbols per status codeword. -/
  codeLen : Nat
  /-- `CODE_LOCK`: the LOCK codeword, first symbol at the most significant of its `CODE_LEN` bits. -/
  codeLock : Nat
  /-- `CODE_BREAK`: the BREAK codeword. -/
  codeBreak : Nat
  /-- `SYMBOL_TICKS`: duration of one codeword symbol in ticks. -/
  symbolTicks : Nat
  /-- `DRIVE_RESET`: the oscillator's DriveConfig at reset. -/
  driveReset : DriveConfig
  /-- `TICK_RESET`: value of `TICK` at reset. -/
  tickReset : Nat
  /-- `LAW`: the control law. -/
  law : Law
  /-- `FINE_PCT`: percent of error per unit of stage strength in `REFLAW`. -/
  finePct : Nat
deriving DecidableEq, Repr

/-- `TX_TOTAL = CODE_LEN × SYMBOL_TICKS` (R8). -/
def Config.txTotal (c : Config) : Nat := c.codeLen * c.symbolTicks

/-- The number of values of a W-bit register, 2^W. -/
def Config.modulus (c : Config) : Nat := 2 ^ c.w

/-- The constraint column of R8, but for that of `LAW`, which speaks of a function and stands in Safety.lean. -/
structure Config.Valid (c : Config) : Prop where
  w_range : 8 ≤ c.w ∧ c.w ≤ 32
  e_range : 1 ≤ c.e ∧ c.e < c.modulus
  tMid_lt : c.tMid < c.modulus
  n_pos : 1 ≤ c.n
  glitchPct_pos : 1 ≤ c.glitchPct
  tolPct_fixed : c.tolPct = 2
  targetKhz_fixed : c.targetKhz = 100000
  m_pos : 1 ≤ c.m
  maxAttempts_pos : 1 ≤ c.maxAttempts
  frameBits_fixed : c.frameBits = 32
  codeLen_pos : 1 ≤ c.codeLen
  codeLock_lt : c.codeLock < 2 ^ c.codeLen
  codeBreak_lt : c.codeBreak < 2 ^ c.codeLen
  codes_differ : c.codeLock ≠ c.codeBreak
  symbolTicks_pos : 1 ≤ c.symbolTicks
  driveReset_valid : c.driveReset.Valid
  tickReset_lt : c.tickReset < c.modulus
  finePct_pos : 1 ≤ c.finePct

/-- The reference `DRIVE_RESET`: all strengths 0, divider 16, range Low (R8). -/
def DriveConfig.refReset : DriveConfig := { ds := #v[0, 0, 0, 0, 0, 0, 0, 0], div := 16, rng := .low }

/-- `REFCFG` (R8). -/
def Config.refcfg : Config where
  w := 32
  e := 125
  tMid := 45
  n := 32
  glitchPct := 50
  tolPct := 2
  targetKhz := 100000
  m := 3
  maxAttempts := 16
  frameBits := 32
  codeLen := 8
  codeLock := 0b10101010
  codeBreak := 0b11001100
  symbolTicks := 256
  driveReset := DriveConfig.refReset
  tickReset := 0
  law := .reference
  finePct := 2

/-- `TESTCFG`: `REFCFG` with N = 4, M = 2, MAX_ATTEMPTS = 2 (R8). -/
def Config.testcfg : Config := { Config.refcfg with n := 4, m := 2, maxAttempts := 2 }

end Sys2Proof
end

