-- ==== Sys2Proof/Syntax.lean ====
section
/-! DEFINITION. The eleven operations of the ECTU (30_encoding.md R83), one constructor per row of the opcode table. -/

namespace Sys2Proof

/-- The four error kinds (60_exceptions.md R240). -/
inductive ErrorKind
  | acquisitionTimeout
  | edgeGlitch
  | counterRollover
  | linkSaturation
deriving DecidableEq, Repr

/-- An operation (R83). -/
inductive Instr
  /-- `ADV n`: n ticks pass (40_edge_capture.md R112). -/
  | adv (n : BitVec 24)
  /-- `RISE`: a rising edge (R113). -/
  | rise
  /-- `FALL`: a falling edge (R114). -/
  | fall
  /-- `RST`: hard reset (45_cross_core_and_capability.md R218). -/
  | rst
  /-- `POLL`: the reader context reads the publication (R216). -/
  | poll
  /-- `GETDC`: read the oscillator's DriveConfig (R220). -/
  | getdc
  /-- `SETDC ds`: write the eight stage strengths, packed (R221, R86). -/
  | setdc (ds : BitVec 16)
  /-- `SETDIV d`: write the divider, 1 to 32 (R222, R87). -/
  | setdiv (d : BitVec 6)
  /-- `SETRNG r`: write the range (R223, R88). -/
  | setrng (r : Range)
  /-- `EMIT c`: a status code handed to the transmitter (44_power_line_signaler.md R192, R97). -/
  | emit (c : StatusCode)
  /-- `EVT k`: an error kind occurred (60_exceptions.md R241, R97). -/
  | evt (k : ErrorKind)
deriving DecidableEq, Repr

end Sys2Proof
end

