-- ==== Sys2Proof/WellFormed.lean ====
section
/-! DEFINITION. Which terms of `Instr` are operations of the machine (30_encoding.md R84 to R88, R99 (c)). Every
other range condition of the table holds by the type of the operand. -/

namespace Sys2Proof

/-- `SETDIV` takes a divider of 1 to 32; 0 and 33 to 63 are reserved (R87). -/
abbrev Instr.WellFormed : Instr → Prop
  | .setdiv d => 1 ≤ d.toNat ∧ d.toNat ≤ 32
  | .adv _ | .rise | .fall | .rst | .poll | .getdc | .setdc _ | .setrng _ | .emit _ | .evt _ => True

end Sys2Proof
end

