-- ==== Sys2Proof/Decode.lean ====
section
/-! DEFINITION. The encodings of 30_encoding.md: enumeration codes (R90 to R94, R98), the packed DriveConfig (R93),
the operation word and its classes (R80 to R89), the total decoder with the named reasons of R99, the encoder, and
the byte form of R64. -/

namespace Sys2Proof

/-! ## Fields -/

/-- A field placed at bit `lo` of an n-bit word whose other bits are 0 (00_scope.md R14). -/
def place (n lo : Nat) {k : Nat} (v : BitVec k) : BitVec n := v.setWidth n <<< lo

/-! ## Enumeration codes -/

/-- Range codes (R92): Low 0, Med 1, High 2. -/
def Range.code : Range → BitVec 2
  | .low => 0
  | .med => 1
  | .high => 2

/-- The range with a code; code 3 is reserved (R92). -/
def Range.ofCode (r : BitVec 2) : Option Range :=
  if r = 0 then some .low else if r = 1 then some .med else if r = 2 then some .high else none

/-- StatusCode codes (R91): Break 0, Lock 1. -/
def StatusCode.code : StatusCode → BitVec 1
  | .brk => 0
  | .lock => 1

/-- The status code with a code (R91). -/
def StatusCode.ofCode (c : BitVec 1) : StatusCode := if c = 1 then .lock else .brk

/-- Cause codes (R98). -/
def ErrorKind.code : ErrorKind → BitVec 8
  | .acquisitionTimeout => 1
  | .edgeGlitch => 2
  | .counterRollover => 3
  | .linkSaturation => 4

/-- The error kind with a cause code; 0 and 5 to 255 are reserved (R98). -/
def ErrorKind.ofCode (k : BitVec 8) : Option ErrorKind :=
  if k = 1 then some .acquisitionTimeout
  else if k = 2 then some .edgeGlitch
  else if k = 3 then some .counterRollover
  else if k = 4 then some .linkSaturation
  else none

/-! ## The packed DriveConfig -/

/-- The eight strengths in 16 bits, stage i at bits 2i+1 : 2i (R86). -/
def packDs (v : Vector (BitVec 2) 8) : BitVec 16 :=
  place 16 0 v[0] ||| place 16 2 v[1] ||| place 16 4 v[2] ||| place 16 6 v[3] |||
  place 16 8 v[4] ||| place 16 10 v[5] ||| place 16 12 v[6] ||| place 16 14 v[7]

/-- The eight strengths held by a 16-bit argument, stage i from bits 2i+1 : 2i (R86). -/
def unpackDs (ds : BitVec 16) : Vector (BitVec 2) 8 := Vector.ofFn fun i => ds.extractLsb' (2 * i.val) 2

/-- The packed DriveConfig (R93): strengths 15:0, divider 21:16, range code 23:22. -/
def packDc (d : DriveConfig) : BitVec 24 :=
  place 24 0 (packDs d.ds) ||| place 24 16 d.div ||| place 24 22 d.rng.code

/-- The DriveConfig of a packed word; range code 3 is reserved (R92, R93). -/
def unpackDc (p : BitVec 24) : Option DriveConfig :=
  (Range.ofCode (p.extractLsb' 22 2)).map fun r =>
    { ds := unpackDs (p.extractLsb' 0 16), div := p.extractLsb' 16 6, rng := r }

/-! ## The opcode map -/

/-- Who issues an operation (R81): S stimulus, C capability, O output record. -/
inductive OpClass
  | stimulus
  | capability
  | record
deriving DecidableEq, Repr

/-- The class of an operation (R83). -/
def Instr.opClass : Instr → OpClass
  | .adv _ | .rise | .fall | .rst | .poll => .stimulus
  | .getdc | .setdc _ | .setdiv _ | .setrng _ => .capability
  | .emit _ | .evt _ => .record

/-- The opcode of an operation (R83). -/
def Instr.opcode : Instr → BitVec 8
  | .adv _ => 0x01
  | .rise => 0x02
  | .fall => 0x03
  | .rst => 0x04
  | .poll => 0x05
  | .getdc => 0x10
  | .setdc _ => 0x11
  | .setdiv _ => 0x12
  | .setrng _ => 0x13
  | .emit _ => 0x20
  | .evt _ => 0x21

/-- The argument field of an operation (R84 to R88, R97); every bit not named is 0. -/
def Instr.arg : Instr → BitVec 24
  | .adv n => n
  | .rise | .fall | .rst | .poll | .getdc => 0
  | .setdc ds => place 24 0 ds
  | .setdiv d => place 24 0 d
  | .setrng r => place 24 0 r.code
  | .emit c => place 24 0 c.code
  | .evt k => place 24 0 k.code

/-- A row of the opcode table as R82 reads it: a word has the row's opcode and its must-be-zero bits clear when
`w AND mask = bits`. -/
structure OpRow where
  mnemonic : String
  opClass  : OpClass
  bits     : Word
  mask     : Word
deriving DecidableEq, Repr

/-- The opcode table (R83; the `match` and `mask` columns R82 speaks of). -/
def opTable : List OpRow :=
  [ ⟨"ADV", .stimulus, 0x01000000, 0xFF000000⟩,
    ⟨"RISE", .stimulus, 0x02000000, 0xFFFFFFFF⟩,
    ⟨"FALL", .stimulus, 0x03000000, 0xFFFFFFFF⟩,
    ⟨"RST", .stimulus, 0x04000000, 0xFFFFFFFF⟩,
    ⟨"POLL", .stimulus, 0x05000000, 0xFFFFFFFF⟩,
    ⟨"GETDC", .capability, 0x10000000, 0xFFFFFFFF⟩,
    ⟨"SETDC", .capability, 0x11000000, 0xFFFF0000⟩,
    ⟨"SETDIV", .capability, 0x12000000, 0xFFFFFFC0⟩,
    ⟨"SETRNG", .capability, 0x13000000, 0xFFFFFFFC⟩,
    ⟨"EMIT", .record, 0x20000000, 0xFFFFFFFE⟩,
    ⟨"EVT", .record, 0x21000000, 0xFFFFFF00⟩ ]

/-- The mnemonic of an operation (R83). -/
def Instr.mnemonic : Instr → String
  | .adv _ => "ADV"
  | .rise => "RISE"
  | .fall => "FALL"
  | .rst => "RST"
  | .poll => "POLL"
  | .getdc => "GETDC"
  | .setdc _ => "SETDC"
  | .setdiv _ => "SETDIV"
  | .setrng _ => "SETRNG"
  | .emit _ => "EMIT"
  | .evt _ => "EVT"

/-! ## Decoding -/

/-- Why a word is `invalid` (R99): (a) an unassigned opcode, (b) a must-be-zero bit set, (c) a reserved value. -/
inductive DecodeError
  | unassignedOpcode
  | mustBeZero
  | reservedValue
deriving DecidableEq, Repr

/-- What a word decodes to (R82): one operation, or `invalid` with the reason. -/
inductive Decoded
  | instr (i : Instr)
  | invalid (e : DecodeError)
deriving DecidableEq, Repr

/-- The operation read, if the word is not `invalid`. -/
def Decoded.toOption : Decoded → Option Instr
  | .instr i => some i
  | .invalid _ => none

/-- `w[31:24]` (R80). -/
def opField (w : Word) : BitVec 8 := w.extractLsb' 24 8

/-- `w[23:0]` (R80). -/
def argField (w : Word) : BitVec 24 := w.extractLsb' 0 24

/-- An operation without an argument: `arg` must be 0 (R85). -/
def decodeNoArg (i : Instr) (arg : BitVec 24) : Decoded := if arg = 0 then .instr i else .invalid .mustBeZero

/-- `SETDC`: `arg[23:16]` must be 0 (R86). -/
def decodeSetdc (arg : BitVec 24) : Decoded :=
  if arg.extractLsb' 16 8 = 0 then .instr (.setdc (arg.extractLsb' 0 16)) else .invalid .mustBeZero

/-- `SETDIV`: `arg[23:6]` must be 0 and the divider 1 to 32 (R87, R99). -/
def decodeSetdiv (arg : BitVec 24) : Decoded :=
  let d := arg.extractLsb' 0 6
  if arg.extractLsb' 6 18 ≠ 0 then .invalid .mustBeZero
  else if 1 ≤ d.toNat ∧ d.toNat ≤ 32 then .instr (.setdiv d)
  else .invalid .reservedValue

/-- `SETRNG`: `arg[23:2]` must be 0 and the code 0 to 2 (R88, R99). -/
def decodeSetrng (arg : BitVec 24) : Decoded :=
  if arg.extractLsb' 2 22 ≠ 0 then .invalid .mustBeZero
  else match Range.ofCode (arg.extractLsb' 0 2) with
    | some r => .instr (.setrng r)
    | none => .invalid .reservedValue

/-- `EMIT`: `arg[23:1]` must be 0 (R97). -/
def decodeEmit (arg : BitVec 24) : Decoded :=
  if arg.extractLsb' 1 23 = 0 then .instr (.emit (StatusCode.ofCode (arg.extractLsb' 0 1))) else .invalid .mustBeZero

/-- `EVT`: `arg[23:8]` must be 0 and the cause 1 to 4 (R98, R99). -/
def decodeEvt (arg : BitVec 24) : Decoded :=
  if arg.extractLsb' 8 16 ≠ 0 then .invalid .mustBeZero
  else match ErrorKind.ofCode (arg.extractLsb' 0 8) with
    | some k => .instr (.evt k)
    | none => .invalid .reservedValue

/-- Decoding by opcode and argument, total (R82, R83, R99). -/
def decodeFields (op : BitVec 8) (arg : BitVec 24) : Decoded :=
  if op = 0x01 then .instr (.adv arg)
  else if op = 0x02 then decodeNoArg .rise arg
  else if op = 0x03 then decodeNoArg .fall arg
  else if op = 0x04 then decodeNoArg .rst arg
  else if op = 0x05 then decodeNoArg .poll arg
  else if op = 0x10 then decodeNoArg .getdc arg
  else if op = 0x11 then decodeSetdc arg
  else if op = 0x12 then decodeSetdiv arg
  else if op = 0x13 then decodeSetrng arg
  else if op = 0x20 then decodeEmit arg
  else if op = 0x21 then decodeEvt arg
  else .invalid .unassignedOpcode

/-- The decoder of an operation word (R82). -/
def decodeWord (w : Word) : Decoded := decodeFields (opField w) (argField w)

/-! ## Encoding -/

/-- The operation word of an operation (R80, R83). -/
def encode (i : Instr) : Word := place 32 24 i.opcode ||| place 32 0 i.arg

/-! ## The byte form -/

/-- A word as four bytes, least significant first (R64). -/
def bytesOfWord (w : Word) : List Byte :=
  [w.extractLsb' 0 8, w.extractLsb' 8 8, w.extractLsb' 16 8, w.extractLsb' 24 8]

/-- The word of the first four bytes, least significant first, and the rest (R64, R101); fewer than four bytes are
no operation. -/
def wordOfBytes : List Byte → Option (Word × List Byte)
  | b0 :: b1 :: b2 :: b3 :: rest => some (place 32 0 b0 ||| place 32 8 b1 ||| place 32 16 b2 ||| place 32 24 b3, rest)
  | _ => none

/-- The decoder of a stream of bytes: the first operation and the bytes after it, `none` where four bytes do not
stand there or the word is `invalid` (R82, R99, R101). -/
def decodeBytes (bs : List Byte) : Option (Instr × List Byte) :=
  match wordOfBytes bs with
  | some (w, rest) => (decodeWord w).toOption.map fun i => (i, rest)
  | none => none

/-- The byte form of an operation. -/
def encodeBytes (i : Instr) : List Byte := bytesOfWord (encode i)

/-- The word of an opcode-table row of `nbits` bits, the bits above them 0 (R80: every operation is one 32-bit word). -/
def tableWord (nbits w : Nat) : Word := BitVec.ofNat 32 (w % 2 ^ nbits)

/-- The operation the decoder reads from the bytes of an opcode-table word. -/
def decodeTableWord (nbits w : Nat) : Option Instr := (decodeBytes (bytesOfWord (tableWord nbits w))).map Prod.fst

end Sys2Proof
end

