-- ==== Sys2Proof/Machine/State.lean ====
section
/-! DEFINITION. The state of the ECTU as plain data (10_state.md R20 to R39, R43), the reasons a step can stop, and
the state right after reset and boot (R44, 70_reset_and_hazards.md R270 to R273). -/

namespace Sys2Proof.Machine

/-- The three values of `LS` (10_state.md R31). -/
inductive LockState
  | unlocked
  | converging
  | locked
deriving DecidableEq, Repr

/-- LockState codes (30_encoding.md R90): Unlocked 0, Converging 1, Locked 2. -/
def LockState.code : LockState → BitVec 2
  | .unlocked => 0
  | .converging => 1
  | .locked => 2

/-- A BitSample `{bit_time, pulse_width, value}` (10_state.md R26). -/
structure BitSample where
  bt  : Nat
  pw  : Nat
  val : Bool
deriving DecidableEq, Repr

/-- The published snapshot (10_state.md R37). -/
structure Snapshot where
  ls    : LockState
  dc    : DriveConfig
  bt    : Nat
  pw    : Nat
  val   : Bool
  valid : Bool
deriving DecidableEq, Repr

/-- The publication words `PUB0` to `PUB3` (20_memory.md R62). -/
structure PubWords where
  pub0 : Word
  pub1 : Word
  pub2 : Word
  pub3 : Word
deriving DecidableEq, Repr

/-- A capability command with its argument (45_cross_core_and_capability.md R219). -/
inductive Command
  | getdc
  | setdc (ds : BitVec 16)
  | setdiv (d : BitVec 6)
  | setrng (r : Range)
deriving DecidableEq, Repr

/-- A record of `OUT` (10_state.md R43). -/
inductive OutRec
  /-- A StatusCode was handed to the transmitter at a boundary. -/
  | emit (c : StatusCode)
  /-- One of the four error kinds occurred. -/
  | evt (k : ErrorKind)
  /-- The block issued a capability command. -/
  | cmd (c : Command)
  /-- A hard reset happened. -/
  | reset
deriving DecidableEq, Repr

/-- An operation word issued, with the port it is issued at: the stimulus sequence, the oscillator's capability
port, or the record output (30_encoding.md R81, R104). DESIGN CHOICE (log entry 6), safe. -/
structure Issue where
  port : OpClass
  word : Word
deriving DecidableEq, Repr

/-- The faults of the machine: none. The spec says the block has no faults (93_implementation_defined.md, treatment
`fault`: "nothing in the ECTU is treated so, it has no faults"; 42_oscillator_controller.md R164). Nothing raises one;
safe (log entry 18). -/
inductive Fault
deriving DecidableEq, Repr

/-- Why an operation is refused. -/
inductive Refusal
  /-- Raised by an arm of `exec` whose operation has no meaning yet; no arm is left so. Safe. -/
  | notModelled (mnemonic : String)
  /-- `refuse(invalid_word)` (30_encoding.md R99 (a) to (c)): raised by `step` for a word that decodes to nothing, and
  by `execSetdiv` for a divider no word carries. Safe. -/
  | invalidWord (e : DecodeError)
  /-- `refuse(not_a_stimulus)` (R99 (d)): raised by `step` for a class C or class O word in the stimulus sequence.
  Safe. -/
  | notAStimulus
  /-- Raised by `step` for a word at the capability port that is none of its four commands (R219, R225). Safe. -/
  | notACommand
  /-- Raised by `step` for a word at the record output that is no record. Safe. -/
  | notARecord
deriving DecidableEq, Repr

structure State where
  /-- `CFG` (00_scope.md R7): the model's own field, never written (log entry 1). -/
  cfg : Config
  /-- The operation words issued and not yet taken, first one first: the model's own field (log entry 6). -/
  input : List Issue
  /-- `TICK` (R22). -/
  tick : Nat
  /-- `RISING` (R23). -/
  rising : Nat
  /-- `PREV_RISING` (R23). -/
  prevRising : Nat
  /-- `NRISE` (R24). -/
  nrise : Fin 3
  /-- `ARMED` (R25). -/
  armed : Bool
  /-- `SMP_BT` (R26). -/
  smpBt : Nat
  /-- `SMP_PW` (R26). -/
  smpPw : Nat
  /-- `SMP_VAL` (R26). -/
  smpVal : Bool
  /-- `SMP_VALID` (R26). -/
  smpValid : Bool
  /-- `WIN`, oldest first (R27). -/
  win : List Nat
  /-- `CNT` (R27). -/
  cnt : Nat
  /-- `SUM` (R28). -/
  sum : Nat
  /-- `FRESH` (R29). -/
  fresh : Nat
  /-- `FE_VALID` (R30). -/
  feValid : Bool
  /-- `FE_SUM` (R30). -/
  feSum : Nat
  /-- `LS` (R31). -/
  ls : LockState
  /-- `GOOD` (R32). -/
  good : Nat
  /-- `BAD` (R32). -/
  bad : Nat
  /-- `ATTEMPTS` (R32). -/
  attempts : Nat
  /-- `DC` (R33). -/
  dc : DriveConfig
  /-- `BITCNT` (R34). -/
  bitcnt : Nat
  /-- `TX_ACTIVE` (R35). -/
  txActive : Bool
  /-- `TX_CODE` (R35). -/
  txCode : StatusCode
  /-- `TX_ELAPSED` (R35). -/
  txElapsed : Nat
  /-- `PUB` (R37). -/
  pub : Snapshot
  /-- `HANDOFF` (R38). -/
  handoff : Bool
  /-- The results of the `POLL`s so far, oldest first: the model's own field (log entry 9). -/
  polls : List PubWords
  /-- `OSC_DC` (R39). -/
  oscDc : DriveConfig
  /-- The response of the latest `GETDC` (R89): the model's own field (log entry 10). -/
  capResp : BitVec 24
  /-- `OUT`, oldest first (R43). -/
  out : List OutRec
deriving DecidableEq, Repr

/-- The state after `RESET_STATE` and `BOOT` under a configuration, with nothing issued and `OUT` empty
(10_state.md R44, 70_reset_and_hazards.md R270 to R273; R271 leaves `OUT` empty or holding the boot records,
DESIGN CHOICE log entry 13). -/
def State.resetOf (c : Config) : State where
  cfg := c
  input := []
  tick := c.tickReset
  rising := 0
  prevRising := 0
  nrise := 0
  armed := false
  smpBt := 0
  smpPw := 0
  smpVal := false
  smpValid := false
  win := []
  cnt := 0
  sum := 0
  fresh := 0
  feValid := false
  feSum := 0
  ls := .unlocked
  good := 0
  bad := 0
  attempts := 0
  dc := c.driveReset
  bitcnt := 0
  txActive := false
  txCode := .brk
  txElapsed := 0
  pub := { ls := .unlocked, dc := c.driveReset, bt := 0, pw := 0, val := false, valid := false }
  handoff := false
  polls := []
  oscDc := c.driveReset
  capResp := packDc c.driveReset
  out := []

/-- The machine right after reset, in the reference configuration (DESIGN CHOICE log entry 1). -/
def State.reset : State := State.resetOf Config.refcfg

end Sys2Proof.Machine
end

