-- ==== Sys2Proof/Machine/Operands.lean ====
section
/-! DEFINITION. The values operations read: timestamp differences (40_edge_capture.md R110), the sample of a falling
edge (R114 to R116), the frequency error's reported figures (41_frequency_estimator.md R138, R139), the publication
words (30_encoding.md R95), the codewords (R96), and the word form of `OUT` records (R97). -/

namespace Sys2Proof.Machine

/-- `wrap_safe_diff(a, b) = (b − a) mod 2^W` (R110). -/
def wrapSafeDiff (c : Config) (a b : Nat) : Nat := (((b : Int) - (a : Int)) % (c.modulus : Int)).toNat

/-- The two edge kinds (30_encoding.md R94). -/
inductive EdgeKind
  | falling
  | rising
deriving DecidableEq, Repr

/-- EdgeEvent kind codes (R94): Falling 0, Rising 1. -/
def EdgeKind.code : EdgeKind → BitVec 1
  | .falling => 0
  | .rising => 1

/-- An EdgeEvent `{kind, tick}`: made by an edge, consumed in the same step, not kept (60_exceptions.md R247). -/
structure EdgeEvent where
  kind : EdgeKind
  tick : Nat
deriving DecidableEq, Repr

/-- The event of an edge now: its tick is the value of `TICK` at the operation (40_edge_capture.md R119). -/
def edgeNow (k : EdgeKind) (s : State) : EdgeEvent := { kind := k, tick := s.tick }

/-- `bit_time` and `pulse_width` of the sample completed by a falling edge at tick `falling`, and its bit value:
1 exactly when the pulse width exceeds `T_MID` (R114 to R116). -/
def sampleAt (s : State) (falling : Nat) : BitSample where
  bt := wrapSafeDiff s.cfg s.prevRising s.rising
  pw := wrapSafeDiff s.cfg s.rising falling
  val := decide (s.cfg.tMid < wrapSafeDiff s.cfg s.rising falling)

/-- The sum a window would have with every bit time as expected, `N × E` (41_frequency_estimator.md R136). -/
def expectedSum (c : Config) : Nat := c.n * c.e

/-- `measured_khz(S)`, rounded down (R138); no operation reads it. -/
def measuredKhz (c : Config) (S : Nat) : Nat := c.targetKhz * S / expectedSum c

/-- `freq_error_pct(S)`, exact (R139); no operation reads it. -/
def freqErrorPct (c : Config) (S : Nat) : Rat := ((S : Rat) / (expectedSum c : Rat) - 1) * 100

/-- `measured_khz` of the latest FrequencyError, once there is one (10_state.md R30). -/
def latestKhz (s : State) : Option Nat := if s.feValid then some (measuredKhz s.cfg s.feSum) else none

/-- `freq_error_pct` of the latest FrequencyError, once there is one (10_state.md R30). -/
def latestErrorPct (s : State) : Option Rat := if s.feValid then some (freqErrorPct s.cfg s.feSum) else none

/-- A Bool as a 1-bit field. -/
def bit (b : Bool) : BitVec 1 := if b then 1 else 0

/-- The record published from the state (10_state.md R37). -/
def snapshot (s : State) : Snapshot where
  ls := s.ls
  dc := s.dc
  bt := s.smpBt
  pw := s.smpPw
  val := s.smpVal
  valid := s.smpValid

/-- The four publication words of a snapshot (R95): `PUB0` holds ls in 1:0, val in 8, valid in 9; `PUB1` the packed
DriveConfig; `PUB2` and `PUB3` the zero-extended times. -/
def Snapshot.words (p : Snapshot) : PubWords where
  pub0 := place 32 0 p.ls.code ||| place 32 8 (bit p.val) ||| place 32 9 (bit p.valid)
  pub1 := place 32 0 (packDc p.dc)
  pub2 := BitVec.ofNat 32 p.bt
  pub3 := BitVec.ofNat 32 p.pw

/-- The `ls` field of a publication result (R95). -/
def PubWords.lsField (p : PubWords) : BitVec 2 := p.pub0.extractLsb' 0 2

/-- `CODE(c)` (R96). -/
def codeword (cfg : Config) : StatusCode → Nat
  | .lock => cfg.codeLock
  | .brk => cfg.codeBreak

/-- Symbol `j` of a codeword, 0 first: bit `CODE_LEN − 1 − j` (R96). -/
def symbol (cfg : Config) (c : StatusCode) (j : Nat) : Bool := (codeword cfg c).testBit (cfg.codeLen - 1 - j)

/-- The operation a capability command is written as (45_cross_core_and_capability.md R219 to R223). -/
def Command.instr : Command → Instr
  | .getdc => .getdc
  | .setdc ds => .setdc ds
  | .setdiv d => .setdiv d
  | .setrng r => .setrng r

/-- The operation whose word is the word form of a record (30_encoding.md R97). -/
def OutRec.instr : OutRec → Instr
  | .emit c => .emit c
  | .evt k => .evt k
  | .cmd c => c.instr
  | .reset => .rst

/-- The word form of an `OUT` record (R97). -/
def OutRec.word (r : OutRec) : Word := encode r.instr

end Sys2Proof.Machine
end

