-- ==== Sys2Proof/Machine/Flags.lean ====
section
/-! DEFINITION. The tests the stages make: the glitch band (41_frequency_estimator.md R132), the tolerance (R136), the
status code of a lock state (44_power_line_signaler.md R191), the end of a transmission (R194, R197), and the level of
`SINK` (R195, R196). -/

namespace Sys2Proof.Machine

/-- `glitch(bt)`: the window is not empty and `bt` is more than `GLITCH_PCT` percent off the running mean `SUM / CNT`,
cross-multiplied; strict (R132). -/
abbrev Glitch (s : State) (bt : Nat) : Prop :=
  1 ≤ s.cnt ∧ s.cfg.glitchPct * s.sum < ((bt * s.cnt : Nat) - (s.sum : Int)).natAbs * 100

/-- `in_tol(S)`: the window sum is within `TOL_PCT` percent of `N × E`, cross-multiplied; inclusive (R136). -/
abbrev InTol (c : Config) (S : Nat) : Prop :=
  ((S : Int) - (expectedSum c : Int)).natAbs * 100 ≤ c.tolPct * expectedSum c

/-- The code of a boundary: `Lock` if `Locked`, else `Break` (R191). -/
def codeFor : LockState → StatusCode
  | .locked => .lock
  | .unlocked | .converging => .brk

/-- A transmission at `elapsed` ticks has been sent whole (R194). -/
abbrev CodeSent (c : Config) (elapsed : Nat) : Prop := c.txTotal ≤ elapsed

/-- The level of the current sink for the transmitter's registers (R195). -/
def sinkLevel (c : Config) (active : Bool) (code : StatusCode) (elapsed : Nat) : Bool :=
  active && symbol c code (elapsed / c.symbolTicks)

/-- The pin `SINK` (R195, 10_state.md R36). -/
def sink (s : State) : Bool := sinkLevel s.cfg s.txActive s.txCode s.txElapsed

/-- `SINK` at `t` ticks after now while nothing but time passes (R196). -/
def sinkAfter (s : State) (t : Nat) : Bool :=
  if s.txElapsed + t < s.cfg.txTotal then sinkLevel s.cfg s.txActive s.txCode (s.txElapsed + t) else false

end Sys2Proof.Machine
end

