-- ==== Sys2Proof/Machine/Ops.lean ====
section
/-! DEFINITION. The named operations over the state that the stages share: appending to `OUT` (00_scope.md R14),
recording an error kind (60_exceptions.md R241), the publication (45_cross_core_and_capability.md R214), the window
reset (41_frequency_estimator.md R137), the oscillator device's commands (R220 to R223), and the reset (70_reset_and_hazards.md
R270, R272). -/

namespace Sys2Proof.Machine

/-- `out(rec)`: append a record to `OUT` (00_scope.md R14). -/
def emitRec (r : OutRec) (s : State) : State := { s with out := s.out ++ [r] }

/-- Taking an error kind, the block's only exceptions: `raise` becomes `out(EVT(kind))` (R14). No control transfer, no
saved state, no flag and no mask (60_exceptions.md R241), so there is nothing to return from (R253); the handling of
each kind stands in the stage that detects it. -/
def takeEvent (k : ErrorKind) (s : State) : State := emitRec (.evt k) s

/-- `PUBLISH`: one indivisible write of the whole record (R214). -/
def publish (s : State) : State := { s with pub := snapshot s }

/-- `WRESET`: the window reset (R137); `FE_VALID` and `FE_SUM` keep their values. -/
def wreset (s : State) : State := { s with win := [], cnt := 0, sum := 0, fresh := 0 }

/-- `GETDC` at the device: the response is the packed `OSC_DC`; no side effect on the device (R220, R89). -/
def devGetdc (s : State) : State := { s with capResp := packDc s.oscDc }

/-- `SETDC` at the device: all eight strengths at once (R221). -/
def devSetdc (ds : BitVec 16) (s : State) : State := { s with oscDc := { s.oscDc with ds := unpackDs ds } }

/-- `SETDIV` at the device: the divider (R222). -/
def devSetdiv (d : BitVec 6) (s : State) : State := { s with oscDc := { s.oscDc with div := d } }

/-- `SETRNG` at the device: the range (R223). -/
def devSetrng (r : Range) (s : State) : State := { s with oscDc := { s.oscDc with rng := r } }

/-- A command carried out by the oscillator device, atomic and effective at once (20_memory.md R70, R224). -/
def devCommand : Command → State → State
  | .getdc => devGetdc
  | .setdc ds => devSetdc ds
  | .setdiv d => devSetdiv d
  | .setrng r => devSetrng r

/-- The controller issues a command: the record, then the command (42_oscillator_controller.md R157, R272). -/
def issueCommand (c : Command) (s : State) : State := devCommand c (emitRec (.cmd c) s)

/-- `RESET_STATE` (R270). `DC` and `PUB` are set by `BOOT`; `OUT` is not cleared; what is not hardware state (the
configuration, the operations still to come, the reader's log of results) is kept (log entry 25). -/
def resetState (s : State) : State :=
  { s with
    tick := s.cfg.tickReset
    rising := 0, prevRising := 0, nrise := 0, armed := false
    smpBt := 0, smpPw := 0, smpVal := false, smpValid := false
    win := [], cnt := 0, sum := 0, fresh := 0, feValid := false, feSum := 0
    ls := .unlocked, good := 0, bad := 0, attempts := 0
    bitcnt := 0
    txActive := false, txCode := .brk, txElapsed := 0
    handoff := false
    oscDc := s.cfg.driveReset }

/-- `DC <- OSC_DC`: the controller loads the DriveConfig that `GETDC` returned (R272, R220). -/
def loadDc (s : State) : State := { s with dc := s.oscDc }

/-- `BOOT` (R272): `GETDC`, load `DC` from its result, publish. -/
def boot (s : State) : State := publish (loadDc (issueCommand .getdc s))

end Sys2Proof.Machine
end

