-- ==== Sys2Proof/Machine/Capability.lean ====
section
/-! DEFINITION. The oscillator's capability port: `GETDC`, `SETDC`, `SETDIV`, `SETRNG`
(45_cross_core_and_capability.md R219 to R225). -/

namespace Sys2Proof.Machine

/-- `GETDC` (R220). -/
def execGetdc (s : State) : Host.Outcome State Fault Refusal := .next (devCommand .getdc s)

/-- `SETDC ds` (R221). -/
def execSetdc (ds : BitVec 16) (s : State) : Host.Outcome State Fault Refusal := .next (devCommand (.setdc ds) s)

/-- `SETDIV d` (R222). A divider of 0 or above 32 is an `invalid` word, refused (R222, R225, 30_encoding.md R99). -/
def execSetdiv (d : BitVec 6) (s : State) : Host.Outcome State Fault Refusal :=
  if 1 ≤ d.toNat ∧ d.toNat ≤ 32 then .next (devCommand (.setdiv d) s) else .refused (.invalidWord .reservedValue)

/-- `SETRNG r` (R223). -/
def execSetrng (r : Range) (s : State) : Host.Outcome State Fault Refusal := .next (devCommand (.setrng r) s)

end Sys2Proof.Machine
end

