-- ==== Sys2Proof/Machine/FrameAssembler.lean ====
section
/-! DEFINITION. FrameAssembler: the stage `FRAME` (43_frame_assembler.md R180 to R184). -/

namespace Sys2Proof.Machine

/-- Stage `FRAME()`: `true` is `boundary` (R181). -/
def frame (s : State) : Bool × State :=
  if s.bitcnt + 1 = s.cfg.frameBits then (true, { s with bitcnt := 0 })
  else (false, { s with bitcnt := s.bitcnt + 1 })

end Sys2Proof.Machine
end

