-- ==== Sys2Proof/Machine/FrequencyEstimator.lean ====
section
/-! DEFINITION. FrequencyEstimator: the stage `EST` (41_frequency_estimator.md R130 to R137). -/

namespace Sys2Proof.Machine

/-- Make room for one more sample: a full window drops its oldest entry (R133, R134). -/
def slide (s : State) : State :=
  if s.cnt = s.cfg.n then
    { s with sum := s.sum - s.win.headD 0, win := s.win.tail, cnt := s.cnt - 1 }
  else s

/-- Append an accepted bit time as the youngest entry (R133). -/
def appendSample (bt : Nat) (s : State) : State :=
  { s with win := s.win ++ [bt], sum := s.sum + bt, cnt := s.cnt + 1, fresh := s.fresh + 1 }

/-- The window emission: once per N newly accepted samples the sum of the window is handed on (R133 to R135). -/
def emission (s : State) : Option Nat × State :=
  if s.fresh = s.cfg.n then (some s.sum, { s with fresh := 0, feValid := true, feSum := s.sum })
  else (none, s)

/-- Stage `EST(bt)`: `some S` is `emit(S)` (R133). -/
def est (bt : Nat) (s : State) : Option Nat × State :=
  if Glitch s bt then (none, takeEvent .edgeGlitch s)
  else emission (appendSample bt (slide s))

end Sys2Proof.Machine
end

