-- ==== Sys2Proof/Machine/ControlLaw.lean ====
section
/-! DEFINITION. The control law: `CFG.LAW` as a function, and the reference law `REFLAW`
(42_oscillator_controller.md R160, R161). -/

namespace Sys2Proof.Machine

/-- `clamp(x, lo, hi)` (00_scope.md R14). -/
def clamp (x lo hi : Nat) : Nat := min (max x lo) hi

/-- The divider the coarse branch of `REFLAW` asks for: divider times observed over expected, to the nearest integer,
halves up, within 1 to 32 (R161). -/
def reflawDiv (c : Config) (dc : DriveConfig) (S : Nat) : Nat :=
  clamp ((dc.div.toNat * S + expectedSum c / 2) / expectedSum c) 1 32

/-- The units the fine branch of `REFLAW` moves one stage by, 1 to 3 (R161). -/
def reflawUnits (c : Config) (S : Nat) : Nat :=
  clamp (((S : Int) - (expectedSum c : Int)).natAbs * 100 / expectedSum c / c.finePct) 1 3

/-- A DriveConfig with one stage strength replaced. -/
def withStage (dc : DriveConfig) (i : Fin 8) (v : Nat) : DriveConfig :=
  { dc with ds := dc.ds.set i.val (BitVec.ofNat 2 v) }

/-- Too fast: weaken the greatest stage above 0 (R161). -/
def reflawWeaken (dc : DriveConfig) (q : Nat) : DriveConfig :=
  match (List.finRange 8).reverse.find? fun i => decide (0 < (dc.ds[i.val]).toNat) with
  | none => dc
  | some i => withStage dc i ((dc.ds[i.val]).toNat - min q (dc.ds[i.val]).toNat)

/-- Too slow: strengthen the least stage below 3 (R161). -/
def reflawStrengthen (dc : DriveConfig) (q : Nat) : DriveConfig :=
  match (List.finRange 8).find? fun i => decide ((dc.ds[i.val]).toNat < 3) with
  | none => dc
  | some i => withStage dc i ((dc.ds[i.val]).toNat + min q (3 - (dc.ds[i.val]).toNat))

/-- `REFLAW(dc, S)` (R161). -/
def reflaw (c : Config) (dc : DriveConfig) (S : Nat) : DriveConfig :=
  if reflawDiv c dc S ≠ dc.div.toNat then { dc with div := BitVec.ofNat 6 (reflawDiv c dc S) }
  else if expectedSum c < S then reflawWeaken dc (reflawUnits c S)
  else reflawStrengthen dc (reflawUnits c S)

/-- The result a law's table lists first for a pair; the DriveConfig itself where it lists none (log entry 2). -/
def tableLaw : List (DriveConfig × Nat × DriveConfig) → DriveConfig → Nat → DriveConfig
  | [], dc, _ => dc
  | (d, t, d') :: rows, dc, S => if d = dc ∧ t = S then d' else tableLaw rows dc S

/-- `CFG.LAW(dc, S)`: a total function of its two arguments alone (R160). -/
def runLaw (c : Config) (dc : DriveConfig) (S : Nat) : DriveConfig :=
  match c.law with
  | .reference => reflaw c dc S
  | .table rows => tableLaw rows dc S

end Sys2Proof.Machine
end

