-- ==== Sys2Proof/Machine/OscillatorController.lean ====
section
/-! DEFINITION. OscillatorController: the stage `CTRL` and the application of a correction step
(42_oscillator_controller.md R150 to R159). -/

namespace Sys2Proof.Machine

/-- Issue a command if its part of the DriveConfig changed (R157). -/
def issueIf (changed : Bool) (c : Command) (s : State) : State := if changed then issueCommand c s else s

/-- Take a changed DriveConfig over into `DC` and reset the window (R157). -/
def applyDc (dc' : DriveConfig) (s : State) : State :=
  if dc' ≠ s.dc then wreset { s with dc := dc' } else s

/-- `APPLY(dc')` (R157): a command for each part that differs from `DC`, in the order divider, strengths, range (no
law of R160 changes the range), then `DC` and the window reset. -/
def applyStep (dc' : DriveConfig) (s : State) : State :=
  applyDc dc'
    (issueIf (decide (dc'.rng ≠ s.dc.rng)) (.setrng dc'.rng)
      (issueIf (decide (dc'.ds ≠ s.dc.ds)) (.setdc (packDs dc'.ds))
        (issueIf (decide (dc'.div ≠ s.dc.div)) (.setdiv dc'.div) s)))

/-- `LS <- l` with the counters cleared (R152). -/
def enterLockState (l : LockState) (s : State) : State := { s with ls := l, good := 0, bad := 0, attempts := 0 }

/-- A window while `Locked` (R158). -/
def ctrlLocked (S : Nat) (s : State) : State :=
  if InTol s.cfg S then { s with bad := 0 }
  else if s.bad + 1 = s.cfg.m then enterLockState .converging s
  else { s with bad := s.bad + 1 }

/-- The BREAK event (R156). -/
def breakEvent (s : State) : State := takeEvent .acquisitionTimeout { s with ls := .unlocked, attempts := 0 }

/-- An out-of-tolerance window while `Converging` (R155, R156). -/
def ctrlCorrect (S : Nat) (s : State) : State :=
  if s.attempts = s.cfg.maxAttempts then breakEvent { s with good := 0 }
  else applyStep (runLaw s.cfg s.dc S) { s with good := 0, attempts := s.attempts + 1 }

/-- A window while `Converging` (R154, R155). -/
def ctrlConverging (S : Nat) (s : State) : State :=
  if InTol s.cfg S then
    if s.good + 1 = s.cfg.m then enterLockState .locked s else { s with good := s.good + 1 }
  else ctrlCorrect S s

/-- Stage `CTRL(S)` (R152): `Unlocked` becomes `Converging` first and the same window is then judged (R153). -/
def ctrl (S : Nat) (s : State) : State :=
  match s.ls with
  | .locked => ctrlLocked S s
  | .unlocked => ctrlConverging S (enterLockState .converging s)
  | .converging => ctrlConverging S s

end Sys2Proof.Machine
end

