-- ==== Sys2Proof/Machine/PowerLineSignaler.lean ====
section
/-! DEFINITION. PowerLineSignaler: the stage `SIG`, the transmitter's share of time, and the record operations `EMIT`
and `EVT` (44_power_line_signaler.md R190 to R200, 60_exceptions.md R241). -/

namespace Sys2Proof.Machine

/-- A boundary that finds a transmission running records `LinkSaturation`; the running one is abandoned (R192, R193). -/
def noteSaturation (s : State) : State := if s.txActive then takeEvent .linkSaturation s else s

/-- Start a code at its symbol 0 (R192). -/
def startCode (c : StatusCode) (s : State) : State := { s with txActive := true, txCode := c, txElapsed := 0 }

/-- Hand a code to the transmitter: R192 once the code is chosen. -/
def sendCode (c : StatusCode) (s : State) : State := emitRec (.emit c) (startCode c (noteSaturation s))

/-- Stage `SIG()` (R191, R192). -/
def sig (s : State) : State := sendCode (codeFor s.ls) s

/-- `TXADV(n)` (R194). -/
def txAdv (n : Nat) (s : State) : State :=
  if s.txActive then
    if CodeSent s.cfg (s.txElapsed + n) then { s with txActive := false, txElapsed := 0 }
    else { s with txElapsed := s.txElapsed + n }
  else s

/-- `EMIT c` as an operation of its own: the status code c is handed to the transmitter (R192, R97). In the block it
is the SIG stage that does so; as stimulus the word is refused by `step`. DESIGN CHOICE (log entry 11). -/
def execEmit (c : StatusCode) (s : State) : Host.Outcome State Fault Refusal := .next (sendCode c s)

/-- `EVT k` as an operation of its own: the occurrence of the error kind is recorded (60_exceptions.md R241, R97). As
stimulus the word is refused by `step`. DESIGN CHOICE (log entry 12). -/
def execEvt (k : ErrorKind) (s : State) : Host.Outcome State Fault Refusal := .next (takeEvent k s)

end Sys2Proof.Machine
end

