-- ==== Sys2Proof/Machine/CrossCore.lean ====
section
/-! DEFINITION. CrossCoreCoordinator: the pipeline pass, `POLL` and `RST` (45_cross_core_and_capability.md R210 to
R218). -/

namespace Sys2Proof.Machine

/-- The latest sample is recorded before the estimator judges it (R210, R213). -/
def recordSample (b : BitSample) (s : State) : State :=
  { s with smpBt := b.bt, smpPw := b.pw, smpVal := b.val, smpValid := true }

/-- `if r = emit(S) then call CTRL(S)` (R210). -/
def ctrlIfEmitted (r : Option Nat × State) : State :=
  match r.1 with
  | some S => ctrl S r.2
  | none => r.2

/-- `if b = boundary then call SIG()` (R210). -/
def sigIfBoundary (b : Bool × State) : State := if b.1 then sig b.2 else b.2

/-- `PASS(bt, pw, val)`, atomic (R210). -/
def runPass (b : BitSample) (s : State) : State :=
  publish (sigIfBoundary (frame (ctrlIfEmitted (est b.bt (recordSample b s)))))

/-- `POLL`: the result is the four words of the publication; `HANDOFF` is set when it shows `Locked` (R216, R217). -/
def execPoll (s : State) : Host.Outcome State Fault Refusal :=
  .next { s with
    polls := s.polls ++ [s.pub.words]
    handoff := s.handoff || decide (s.pub.ls = .locked) }

/-- `RST`: the record, `RESET_STATE`, `BOOT` (R218). -/
def execRst (s : State) : Host.Outcome State Fault Refusal := .next (boot (resetState (emitRec .reset s)))

end Sys2Proof.Machine
end

