-- ==== Sys2Proof/Machine/EdgeCapture.lean ====
section
/-! DEFINITION. EdgeCapture and the tick counter: `ADV`, `RISE`, `FALL` (40_edge_capture.md R110 to R121). -/

namespace Sys2Proof.Machine

/-- The tick counter's share of `ADV n`, wrapping silently (R112). -/
def tickAdv (n : Nat) (s : State) : State := { s with tick := (s.tick + n) % s.cfg.modulus }

/-- `ADV n` (R112). -/
def execAdv (n : BitVec 24) (s : State) : Host.Outcome State Fault Refusal := .next (txAdv n.toNat (tickAdv n.toNat s))

/-- `min(NRISE + 1, 2)` (R113). -/
def countRise (n : Fin 3) : Fin 3 := ⟨min (n.val + 1) 2, by omega⟩

/-- The handler of a rising edge (R113, 60_exceptions.md R247). -/
def onRising (e : EdgeEvent) (s : State) : State :=
  { s with prevRising := s.rising, rising := e.tick, nrise := countRise s.nrise, armed := true }

/-- The handler of a falling edge (R114): with `ARMED` it disarms, and with two rising edges seen it runs the pass on
the completed sample. -/
def onFalling (e : EdgeEvent) (s : State) : State :=
  if s.armed then
    if s.nrise = 2 then runPass (sampleAt s e.tick) { s with armed := false }
    else { s with armed := false }
  else s

/-- `RISE` (R113). -/
def execRise (s : State) : Host.Outcome State Fault Refusal := .next (onRising (edgeNow .rising s) s)

/-- `FALL` (R114). -/
def execFall (s : State) : Host.Outcome State Fault Refusal := .next (onFalling (edgeNow .falling s) s)

end Sys2Proof.Machine
end

