-- ==== Sys2Proof/Machine/Dispatch.lean ====
section
/-! DEFINITION. The meaning of every operation (30_encoding.md R83), one arm per constructor. -/

namespace Sys2Proof.Machine

def exec (i : Instr) (s : State) : Host.Outcome State Fault Refusal :=
  match i with
  | .adv n => Sys2Proof.Machine.execAdv n s
  | .rise => Sys2Proof.Machine.execRise s
  | .fall => Sys2Proof.Machine.execFall s
  | .rst => Sys2Proof.Machine.execRst s
  | .poll => Sys2Proof.Machine.execPoll s
  | .getdc => Sys2Proof.Machine.execGetdc s
  | .setdc ds => Sys2Proof.Machine.execSetdc ds s
  | .setdiv d => Sys2Proof.Machine.execSetdiv d s
  | .setrng r => Sys2Proof.Machine.execSetrng r s
  | .emit c => Sys2Proof.Machine.execEmit c s
  | .evt k => Sys2Proof.Machine.execEvt k s

end Sys2Proof.Machine
end

