-- ==== Sys2Proof/Machine/Issue.lean ====
section
/-! DEFINITION. How operations reach the machine: the words issued and not yet taken, the port each is issued at, and
the pseudo-operations of a stimulus sequence (30_encoding.md R81, R99, R103, R104). -/

namespace Sys2Proof.Machine

/-- What becomes of an issued word (R99, R104, R219). -/
inductive Admission
  | run (i : Instr)
  | refuse (r : Refusal)
deriving DecidableEq, Repr

/-- The refusal of a valid word at a port its class does not belong to: `not_a_stimulus` in a stimulus sequence
(R99 (d)). -/
def wrongPort : OpClass → Refusal
  | .stimulus => .notAStimulus
  | .capability => .notACommand
  | .record => .notARecord

/-- An issued word runs when it decodes and its class is that of its port; `invalid` words and words at the wrong port
are refused (R99). -/
def admission (x : Issue) : Admission :=
  match decodeWord x.word with
  | .invalid e => .refuse (.invalidWord e)
  | .instr i => if i.opClass = x.port then .run i else .refuse (wrongPort x.port)

/-- The port at which a word can run: that of its class; the stimulus port for an `invalid` word. -/
def homePort (w : Word) : OpClass :=
  match decodeWord w with
  | .instr i => i.opClass
  | .invalid _ => .stimulus

/-- A word issued at the port of its class. -/
def issueAtHome (w : Word) : Issue := { port := homePort w, word := w }

/-- A stimulus sequence (a program of 95_test_vectors.md) as issued words (R81). -/
def stimulus (p : List Instr) : List Issue := p.map fun i => { port := .stimulus, word := encode i }

/-- The machine with a stimulus sequence still to come. -/
def State.withStimulus (s : State) (p : List Instr) : State := { s with input := stimulus p }

/-! ## Pseudo-operations (R103) -/

/-- `NOP` = `ADV 0`. -/
def pseudoNop : List Instr := [.adv 0]

/-- `GAP n` = `ADV n`. -/
def pseudoGap (n : BitVec 24) : List Instr := [.adv n]

/-- `BIT h, p` = `RISE`; `ADV h`; `FALL`; `ADV p − h`, for h ≤ p. R103 does not say what it stands for when h or p − h
exceeds the 24 bits of `ADV`'s operand (R84): such a `BIT` has no expansion. DESIGN CHOICE (log entry 26), safe. -/
def pseudoBit (h p : Nat) : Option (List Instr) :=
  if h ≤ p ∧ h < 2 ^ 24 ∧ p - h < 2 ^ 24 then
    some [.rise, .adv (BitVec.ofNat 24 h), .fall, .adv (BitVec.ofNat 24 (p - h))]
  else none

/-- `REP k` of the enclosed operations. -/
def pseudoRep (k : Nat) (p : List Instr) : List Instr := (List.replicate k p).flatten

/-- `BITS k, h, p` = `BIT h, p` repeated k times, where `BIT h, p` has an expansion (log entry 26). -/
def pseudoBits (k h p : Nat) : Option (List Instr) := (pseudoBit h p).map (pseudoRep k)

end Sys2Proof.Machine
end

