-- ==== Sys2Proof/Machine/Step.lean ====
section
/-! DEFINITION. One step of the machine: the next issued operation, atomically (00_scope.md R10, 20_memory.md R71). -/

namespace Sys2Proof.Machine

/-- Take the first issued word and run it, or refuse it (30_encoding.md R99). With nothing issued the machine idles:
its state changes only by operations (R10; DESIGN CHOICE log entry 8). -/
def step (s : State) : Host.Outcome State Fault Refusal :=
  match s.input with
  | [] => .next s
  | x :: rest =>
    match admission x with
    | .run i => exec i { s with input := rest }
    | .refuse r => .refused r

/-- The state whose next step takes the opcode-table word, issued at the port of its class (log entry 7). -/
def State.withFetchWord (s : State) (nbits w : Nat) : State :=
  { s with input := issueAtHome (tableWord nbits w) :: s.input }

end Sys2Proof.Machine
end

