-- ==== Sys2Proof/Machine/Assembly.lean ====
section
/-! DEFINITION. The textual form of operations (30_encoding.md R102) and of the one-line pseudo-operations (R103): a
line of text to the operations it stands for. `REP k` encloses lines and is the function `pseudoRep` (log entry 24). -/

namespace Sys2Proof.Machine

/-- The characters before a comment, which `;` begins (R102). -/
def stripComment (line : List Char) : List Char := line.takeWhile fun c => c ≠ ';'

/-- Blanks and the comma between two arguments separate words (R102, R103). -/
def isSeparator (c : Char) : Bool := c = ' ' || c = '\t' || c = ','

/-- The words of a line; `cur` is the word being read, last character first. -/
def words : List Char → List Char → List (List Char)
  | [], cur => if cur = [] then [] else [cur.reverse]
  | c :: cs, cur =>
    if isSeparator c then (if cur = [] then words cs [] else cur.reverse :: words cs [])
    else words cs (c :: cur)

/-- The digits of R102's numbers, least first: the decimal ones, then the hexadecimal ones in capital letters. -/
def capitalDigits : List Char := "0123456789ABCDEF".toList

/-- The same digits in small letters (log entry 24). -/
def smallDigits : List Char := "0123456789abcdef".toList

/-- The value of a digit below a base: its place among the digits, in either case. -/
def digitValue (base : Nat) (c : Char) : Option Nat :=
  ((capitalDigits.take base).idxOf? c).or ((smallDigits.take base).idxOf? c)

/-- The number written by digits after a value already read. -/
def digits (base : Nat) : List Char → Nat → Option Nat
  | [], acc => some acc
  | c :: cs, acc => (digitValue base c).bind fun d => digits base cs (acc * base + d)

/-- A number, decimal or hexadecimal with the prefix `0x` (R102). -/
def number : List Char → Option Nat
  | [] => none
  | ['0', 'x'] => none
  | '0' :: 'x' :: cs => digits 16 cs 0
  | cs => digits 10 cs 0

/-- A number that fits a field of `k` bits. -/
def field (k : Nat) (cs : List Char) : Option (BitVec k) :=
  ((number cs).filter fun n => decide (n < 2 ^ k)).map (BitVec.ofNat k)

/-- A name of a list of named values, else the value of a code. -/
def named {α : Type} (names : List (List Char × α)) (code : List Char → Option α) (cs : List Char) : Option α :=
  match names.find? fun p => decide (p.1 = cs) with
  | some p => some p.2
  | none => code cs

/-- The argument of `SETRNG`: `LOW`, `MED`, `HIGH` or the code (R102). -/
def rangeArg : List Char → Option Range :=
  named [(['L', 'O', 'W'], .low), (['M', 'E', 'D'], .med), (['H', 'I', 'G', 'H'], .high)]
    fun cs => (field 2 cs).bind Range.ofCode

/-- The argument of `EMIT`: `BREAK`, `LOCK` or the code (R102). -/
def statusArg : List Char → Option StatusCode :=
  named [(['B', 'R', 'E', 'A', 'K'], .brk), (['L', 'O', 'C', 'K'], .lock)]
    fun cs => (field 1 cs).map StatusCode.ofCode

/-- The argument of `EVT`: the kind's name or its code (R102). -/
def kindArg : List Char → Option ErrorKind :=
  named
    [ ("AcquisitionTimeout".toList, .acquisitionTimeout), ("EdgeGlitch".toList, .edgeGlitch),
      ("CounterRollover".toList, .counterRollover), ("LinkSaturation".toList, .linkSaturation) ]
    fun cs => (field 8 cs).bind ErrorKind.ofCode

/-- The argument of `SETDIV`, 1 to 32 (R87). -/
def dividerArg (cs : List Char) : Option (BitVec 6) :=
  (field 6 cs).filter fun d => decide (1 ≤ d.toNat ∧ d.toNat ≤ 32)

/-- The two arguments of `BIT`, the high time and the period (R103); which of them have an expansion is for
`pseudoBit` to say. -/
def bitArgs (h p : List Char) : Option (Nat × Nat) := (number h).bind fun h => (number p).map fun p => (h, p)

/-- The operations a line's words stand for. -/
def assembleWords : List (List Char) → Option (List Instr)
  | [] => some []
  | [['R', 'I', 'S', 'E']] => some [.rise]
  | [['F', 'A', 'L', 'L']] => some [.fall]
  | [['R', 'S', 'T']] => some [.rst]
  | [['P', 'O', 'L', 'L']] => some [.poll]
  | [['G', 'E', 'T', 'D', 'C']] => some [.getdc]
  | [['N', 'O', 'P']] => some pseudoNop
  | [['A', 'D', 'V'], a] => (field 24 a).map fun n => [.adv n]
  | [['G', 'A', 'P'], a] => (field 24 a).map pseudoGap
  | [['S', 'E', 'T', 'D', 'C'], a] => (field 16 a).map fun ds => [.setdc ds]
  | [['S', 'E', 'T', 'D', 'I', 'V'], a] => (dividerArg a).map fun d => [.setdiv d]
  | [['S', 'E', 'T', 'R', 'N', 'G'], a] => (rangeArg a).map fun r => [.setrng r]
  | [['E', 'M', 'I', 'T'], a] => (statusArg a).map fun c => [.emit c]
  | [['E', 'V', 'T'], a] => (kindArg a).map fun k => [.evt k]
  | [['B', 'I', 'T'], h, p] => (bitArgs h p).bind fun x => pseudoBit x.1 x.2
  | [['B', 'I', 'T', 'S'], k, h, p] =>
    (number k).bind fun k => (bitArgs h p).bind fun x => pseudoBits k x.1 x.2
  | _ => none

/-- The operations a line of text stands for; `none` for a line of no such form (R102, R103). -/
def assembleLine (line : List Char) : Option (List Instr) := assembleWords (words (stripComment line) [])

end Sys2Proof.Machine
end

