-- ==== Sys2Proof/Safety.lean ====
section
/-! DEFINITION. The terms claims are stated in: the constraints on a law (42_oscillator_controller.md R160), the
machine's invariants (10_state.md R40), what a falling edge is about to do, and which words the opcode table admits. -/

namespace Sys2Proof.Machine

/-! ## The control law -/

/-- R160 (b) and (c): `dc'` differs from `dc` in at most one place, one stage strength or the divider, and not in the
range. -/
def OneStep (dc dc' : DriveConfig) : Prop :=
  dc'.rng = dc.rng ∧
  (dc'.ds = dc.ds ∨ (dc'.div = dc.div ∧ ∃ i : Fin 8, ∀ j : Fin 8, j ≠ i → dc'.ds[j.val] = dc.ds[j.val]))

/-- R160 (a) to (c): a law is called with a valid DriveConfig and an out-of-tolerance sum, and answers a valid
DriveConfig one step away. -/
def LawOk (c : Config) : Prop :=
  ∀ dc S, dc.Valid → ¬ InTol c S → (runLaw c dc S).Valid ∧ OneStep dc (runLaw c dc S)

/-! ## Invariants -/

/-- EdgeCapture and the latest sample: timestamps are W-bit numbers (R22, R23, R26), and (I8). -/
structure CaptureInv (s : State) : Prop where
  tick_lt : s.tick < s.cfg.modulus
  rising_lt : s.rising < s.cfg.modulus
  prevRising_lt : s.prevRising < s.cfg.modulus
  smpBt_lt : s.smpBt < s.cfg.modulus
  smpPw_lt : s.smpPw < s.cfg.modulus
  unarmed_before_rise : s.nrise = 0 → s.armed = false
  sample_needs_two_rises : s.smpValid = true → s.nrise = 2

/-- The estimator (I2), with the ranges of R27 to R30. -/
structure EstInv (s : State) : Prop where
  cnt_eq : s.cnt = s.win.length
  cnt_le : s.cnt ≤ s.cfg.n
  fresh_le : s.fresh ≤ s.cnt
  fresh_lt : s.fresh < s.cfg.n
  sum_eq : s.sum = s.win.sum
  win_lt : ∀ t ∈ s.win, t < s.cfg.modulus
  feSum_lt : s.feSum < s.cfg.n * s.cfg.modulus

/-- The controller's counters (I4). -/
structure CtrlInv (s : State) : Prop where
  good_lt : s.good < s.cfg.m
  bad_lt : s.bad < s.cfg.m
  attempts_le : s.attempts ≤ s.cfg.maxAttempts
  good_zero : s.ls ≠ .converging → s.good = 0
  bad_zero : s.ls ≠ .locked → s.bad = 0
  attempts_zero : s.ls ≠ .converging → s.attempts = 0

/-- The controller's and the oscillator's DriveConfig (I1). -/
structure DriveInv (s : State) : Prop where
  dc_valid : s.dc.Valid
  osc_eq : s.oscDc = s.dc

/-- The transmitter (I5). -/
structure TxInv (s : State) : Prop where
  idle_zero : s.txActive = false → s.txElapsed = 0
  elapsed_lt : s.txElapsed < s.cfg.txTotal

/-- The machine's invariants (10_state.md R40: I1 to I8), for a valid configuration whose law meets R160 (a) to (c), in
a run whose operations are all issued in the stimulus sequence. -/
structure Inv (s : State) : Prop where
  cfg_valid : s.cfg.Valid
  law_ok : LawOk s.cfg
  stimulus_only : ∀ x ∈ s.input, x.port = OpClass.stimulus
  capture : CaptureInv s
  estimator : EstInv s
  controller : CtrlInv s
  drive : DriveInv s
  bitcnt_lt : s.bitcnt < s.cfg.frameBits
  transmitter : TxInv s
  pub_eq : s.pub = snapshot s
  handoff_seen : s.handoff = true → ∃ w ∈ s.polls, w.lsField = LockState.locked.code

/-! ## The reset table -/

/-- The table of reset values (10_state.md R44) under a configuration; the row of `OUT` is not a value. -/
structure ResetTable (c : Config) (s : State) : Prop where
  ls : s.ls = .unlocked
  tick : s.tick = c.tickReset
  rising : s.rising = 0
  prevRising : s.prevRising = 0
  nrise : s.nrise = 0
  armed : s.armed = false
  smpBt : s.smpBt = 0
  smpPw : s.smpPw = 0
  smpVal : s.smpVal = false
  smpValid : s.smpValid = false
  win : s.win = []
  cnt : s.cnt = 0
  sum : s.sum = 0
  fresh : s.fresh = 0
  feValid : s.feValid = false
  feSum : s.feSum = 0
  good : s.good = 0
  bad : s.bad = 0
  attempts : s.attempts = 0
  dc : s.dc = c.driveReset
  bitcnt : s.bitcnt = 0
  txActive : s.txActive = false
  txCode : s.txCode = .brk
  txElapsed : s.txElapsed = 0
  sink_off : sink s = false
  pub : s.pub = { ls := .unlocked, dc := c.driveReset, bt := 0, pw := 0, val := false, valid := false }
  handoff : s.handoff = false
  oscDc : s.oscDc = c.driveReset

/-! ## What a falling edge does -/

/-- A falling edge now completes a sample (40_edge_capture.md R114). -/
abbrev SampleBearing (s : State) : Prop := s.armed = true ∧ s.nrise = 2

/-- The sample a falling edge now completes. -/
def sampleNow (s : State) : BitSample := sampleAt s s.tick

/-- The window once a bit time has been accepted: the oldest entry gone if it was full, the new one youngest
(41_frequency_estimator.md R133). -/
def windowWith (s : State) (bt : Nat) : List Nat := (if s.cnt = s.cfg.n then s.win.tail else s.win) ++ [bt]

/-- A falling edge now makes the estimator emit a window sum (R133, R135). -/
abbrev Emits (s : State) : Prop :=
  SampleBearing s ∧ ¬ Glitch s (sampleNow s).bt ∧ s.fresh + 1 = s.cfg.n

/-- The sum it emits. -/
def emittedSum (s : State) : Nat := (windowWith s (sampleNow s).bt).sum

/-- The estimator's window with its registers `WIN`, `CNT`, `SUM`, `FRESH` (10_state.md R27 to R29). -/
def windowView (s : State) : List Nat × Nat × Nat × Nat := (s.win, s.cnt, s.sum, s.fresh)

/-- The controller's state `LS`, `GOOD`, `BAD`, `ATTEMPTS`, `DC` (10_state.md R31 to R33) with the oscillator's
DriveConfig: all that CTRL reads but the configuration and the window sum. -/
def ctrlView (s : State) : LockState × Nat × Nat × Nat × DriveConfig × DriveConfig :=
  (s.ls, s.good, s.bad, s.attempts, s.dc, s.oscDc)

/-- A falling edge now makes the controller apply a correction step: it emits an out-of-tolerance sum while `LS` is
`Unlocked`, or `Converging` with budget left (42_oscillator_controller.md R153, R155). -/
abbrev CorrectionDue (s : State) : Prop :=
  Emits s ∧ ¬ InTol s.cfg (emittedSum s) ∧
    (s.ls = .unlocked ∨ s.ls = .converging ∧ s.attempts < s.cfg.maxAttempts)

/-- What the law answers to that sum. -/
def lawAnswer (s : State) : DriveConfig := runLaw s.cfg s.dc (emittedSum s)

/-- A falling edge now is a frame boundary (43_frame_assembler.md R181). -/
abbrev Boundary (s : State) : Prop := SampleBearing s ∧ s.bitcnt + 1 = s.cfg.frameBits

/-- The `EMIT` records of an output history. -/
def emitRecords (out : List OutRec) : List OutRec :=
  out.filter fun r => match r with
    | .emit _ => true
    | .evt _ | .cmd _ | .reset => false

/-- The state with the reader context's part replaced (10_state.md R38; the log of results is the model's). -/
def withReaderState (s : State) (h : Bool) (p : List PubWords) : State := { s with handoff := h, polls := p }

/-! ## The opcode table -/

/-- A word has a row's opcode and its must-be-zero bits clear (30_encoding.md R82). -/
abbrev RowMatches (r : OpRow) (w : Word) : Prop := w &&& r.mask = r.bits

/-- The value condition of a row that its mask cannot express (R82, R99 (c)). -/
abbrev RowValueOk (r : OpRow) (w : Word) : Prop :=
  (r.mnemonic = "SETDIV" → 1 ≤ (w.extractLsb' 0 6).toNat ∧ (w.extractLsb' 0 6).toNat ≤ 32) ∧
  (r.mnemonic = "SETRNG" → (w.extractLsb' 0 2).toNat ≠ 3) ∧
  (r.mnemonic = "EVT" → 1 ≤ (w.extractLsb' 0 8).toNat ∧ (w.extractLsb' 0 8).toNat ≤ 4)

end Sys2Proof.Machine
end

