-- ==== Sys2Proof/Certificates/Slice0/Obligations.lean ====
section
/-! DEFINITION. The statements for the provers. Each docstring cites the rules of spec/ it formalises. -/

open Sys2Proof Sys2Proof.Machine

/-! ## Encoding -/

/-- Decoding an encoded well-formed operation gives it back, from its word and from a stream of bytes that begins with
its four bytes (30_encoding.md sections 1 and 2). -/
def Obligations.DecodingAnEncodedOperationGivesItBack : Prop :=
  ∀ i : Instr, i.WellFormed →
    decodeWord (encode i) = .instr i ∧ ∀ rest : List Byte, decodeBytes (encodeBytes i ++ rest) = some (i, rest)

/-- A word that decodes is the encoding of what it decodes to, which is well-formed: no bit of a word is ignored
(30_encoding.md sections 1 and 4). -/
def Obligations.EncodingADecodedWordGivesItBack : Prop :=
  ∀ (w : Word) (i : Instr), decodeWord w = .instr i → i.WellFormed ∧ encode i = w

/-- R82: every word decodes to exactly one row of the opcode table or is `invalid`: a row whose match, mask and value
conditions the word meets gives that row's operation, no word meets two rows' match, and a word that meets none is
`invalid`. -/
def Obligations.EveryWordDecodesToOneRowOrIsInvalid : Prop :=
  ∀ w : Word,
    (∀ r ∈ opTable, RowMatches r w → RowValueOk r w →
      ∃ i, decodeWord w = .instr i ∧ i.mnemonic = r.mnemonic ∧ i.opClass = r.opClass) ∧
    (∀ r ∈ opTable, ∀ r' ∈ opTable, RowMatches r w → RowMatches r' w → r = r') ∧
    ((∀ r ∈ opTable, ¬ (RowMatches r w ∧ RowValueOk r w)) → ∃ e, decodeWord w = .invalid e)

/-- R99: in a stimulus sequence (a) a word with an unassigned opcode, (b) a word of an assigned opcode with a
must-be-zero bit set and (c) a word with a reserved divider, range or cause are refused as `invalid_word`, and (d) a
class C or class O word as `not_a_stimulus`. -/
def Obligations.IllegalAndReservedWordsAreRefused : Prop :=
  ∀ (s : State) (w : Word) (rest : List Issue), s.input = { port := .stimulus, word := w } :: rest →
    ((∀ r ∈ opTable, w.extractLsb' 24 8 ≠ r.bits.extractLsb' 24 8) →
      step s = .refused (.invalidWord .unassignedOpcode)) ∧
    (∀ r ∈ opTable, w.extractLsb' 24 8 = r.bits.extractLsb' 24 8 → ¬ RowMatches r w →
      step s = .refused (.invalidWord .mustBeZero)) ∧
    (∀ r ∈ opTable, RowMatches r w → ¬ RowValueOk r w → step s = .refused (.invalidWord .reservedValue)) ∧
    (∀ i, decodeWord w = .instr i → i.opClass ≠ .stimulus → step s = .refused .notAStimulus)

/-- Words of the spec's encodings and the operations they stand for (30_encoding.md R83 to R88, R97 to R99 by their
examples), and the little-endian bytes of `ADV 125` (20_memory.md section 2). -/
def Obligations.WordsOfTheOpcodeTableDecodeAsListed : Prop :=
  decodeWord 0x0100007D = .instr (.adv 125) ∧ decodeWord 0x02000000 = .instr .rise ∧
  decodeWord 0x03000000 = .instr .fall ∧ decodeWord 0x04000000 = .instr .rst ∧
  decodeWord 0x05000000 = .instr .poll ∧ decodeWord 0x10000000 = .instr .getdc ∧
  decodeWord 0x1100FFFF = .instr (.setdc 0xFFFF) ∧ decodeWord 0x12000020 = .instr (.setdiv 32) ∧
  decodeWord 0x13000002 = .instr (.setrng .high) ∧ decodeWord 0x20000001 = .instr (.emit .lock) ∧
  decodeWord 0x21000004 = .instr (.evt .linkSaturation) ∧
  decodeWord 0x00000000 = .invalid .unassignedOpcode ∧ decodeWord 0x11010000 = .invalid .mustBeZero ∧
  decodeWord 0x12000021 = .invalid .reservedValue ∧
  decodeBytes [0x7D, 0x00, 0x00, 0x01] = some (.adv 125, [])

/-- R97: the word form of the records of `OUT`: `EMIT(c)` is 0x20000000 plus the code, `EVT(k)` is 0x21000000 plus the
cause, a command is its class C operation word, and `RESET` is the `RST` word. -/
def Obligations.RecordsHaveTheirWordForm : Prop :=
  (∀ c : StatusCode, (OutRec.emit c).word = 0x20000000 + c.code.zeroExtend 32) ∧
  (OutRec.emit .brk).word = 0x20000000 ∧ (OutRec.emit .lock).word = 0x20000001 ∧
  (∀ k : ErrorKind, (OutRec.evt k).word = 0x21000000 + k.code.zeroExtend 32) ∧
  (∀ c : Command, (OutRec.cmd c).word = encode c.instr ∧ c.instr.opClass = .capability) ∧
  (OutRec.cmd (.setdiv 15)).word = 0x1200000F ∧
  OutRec.reset.word = 0x04000000

/-- R93: the packed DriveConfig has strength i at bits 2i+1 : 2i, the divider at 21:16 and the range code at 23:22; the
reset DriveConfig of `REFCFG` packs to 0x100000; and unpacking gives the DriveConfig back. -/
def Obligations.PackedDriveConfigHoldsItsFields : Prop :=
  (∀ d : DriveConfig,
    (∀ i : Fin 8, (packDc d).extractLsb' (2 * i.val) 2 = d.ds[i.val]) ∧
    (packDc d).extractLsb' 16 6 = d.div ∧ (packDc d).extractLsb' 22 2 = d.rng.code ∧
    unpackDc (packDc d) = some d) ∧
  packDc Config.refcfg.driveReset = 0x100000

/-! ## The step -/

/-- A step runs the operation the first issued word decodes to, on the state without that word, when its class is that
of its port; with nothing issued the machine idles (the ports and the idling are the model's, log entries 6 and 8). -/
def Obligations.StepRunsTheDecodedOperation : Prop :=
  (∀ (s : State) (x : Issue) (rest : List Issue) (i : Instr),
    s.input = x :: rest → decodeWord x.word = .instr i → i.opClass = x.port →
    step s = exec i { s with input := rest }) ∧
  (∀ s : State, s.input = [] → step s = .next s)

/-- Every well-formed operation completes, in every state: no operation waits, halts or fails (`ADV`, `RISE`, `FALL`:
40_edge_capture.md sections 2 to 4; what `FALL` runs: 42_oscillator_controller.md section 3; `POLL` and `RST`:
45_cross_core_and_capability.md sections 3 and 4; the four commands: section 5), and an issued class S word therefore
always leads to a next state. That `EMIT` and `EVT` run and complete as operations is the model's choice (log entries 11
and 12), since the spec gives their words as records only. -/
def Obligations.EveryOperationCompletes : Prop :=
  (∀ (i : Instr) (s : State), i.WellFormed → ∃ t, exec i s = .next t) ∧
  (∀ (s : State) (i : Instr) (rest : List Issue), i.WellFormed → i.opClass = .stimulus →
    s.input = { port := .stimulus, word := encode i } :: rest → ∃ t, step s = .next t)

/-! ## Time and edges -/

/-- R112 and R194: `ADV n` adds n to `TICK` modulo 2^W and advances a running transmission, which ends when its elapsed
ticks reach `CODE_LEN × SYMBOL_TICKS`; nothing else changes. `ADV a` then `ADV b` is `ADV (a + b)` where that is
encodable, and `ADV 0` changes nothing. -/
def Obligations.AdvPassesTime : Prop :=
  (∀ (n : BitVec 24) (s : State), exec (.adv n) s = .next { s with
    tick := (s.tick + n.toNat) % 2 ^ s.cfg.w
    txActive := s.txActive && decide (s.txElapsed + n.toNat < s.cfg.codeLen * s.cfg.symbolTicks)
    txElapsed :=
      if s.txActive = true then
        if s.txElapsed + n.toNat < s.cfg.codeLen * s.cfg.symbolTicks then s.txElapsed + n.toNat else 0
      else s.txElapsed }) ∧
  (∀ (a b : BitVec 24) (s t : State), a.toNat + b.toNat < 2 ^ 24 → exec (.adv a) s = .next t →
    exec (.adv b) t = exec (.adv (a + b)) s) ∧
  (∀ s : State, CaptureInv s → TxInv s → exec (.adv 0) s = .next s)

/-- R113: `RISE` shifts the latched timestamp, latches `TICK`, counts the edge up to 2 and arms; nothing else changes. -/
def Obligations.RiseLatchesTheTimestamp : Prop :=
  ∀ s : State, ∃ n : Fin 3, n.val = min (s.nrise.val + 1) 2 ∧
    exec .rise s = .next { s with prevRising := s.rising, rising := s.tick, nrise := n, armed := true }

/-- R114: an unarmed `FALL` changes nothing; an armed one with fewer than two rising edges seen only disarms; an armed
one with two makes the sample of R115 and R116 and runs the pass on it. -/
def Obligations.FallMakesTheSampleAndRunsThePass : Prop :=
  ∀ s : State,
    (s.armed = false → exec .fall s = .next s) ∧
    (s.armed = true → s.nrise ≠ 2 → exec .fall s = .next { s with armed := false }) ∧
    (s.armed = true → s.nrise = 2 → exec .fall s = .next (runPass
      { bt := wrapSafeDiff s.cfg s.prevRising s.rising
        pw := wrapSafeDiff s.cfg s.rising s.tick
        val := decide (s.cfg.tMid < wrapSafeDiff s.cfg s.rising s.tick) }
      { s with armed := false }))

/-- R111, on the definition of R110: `wrap_safe_diff(a, b)` is (b − a) mod 2^W, so d ticks after `a` it is d mod 2^W,
which is d itself below 2^W, whatever `a` is and wherever the counter wrapped; and so it is for two rising edges
`ADV n` apart. -/
def Obligations.TimestampDifferencesSurviveTheWrap : Prop :=
  (∀ (c : Config) (a b : Nat), ((wrapSafeDiff c a b : Nat) : Int) = ((b : Int) - (a : Int)) % (2 ^ c.w : Int)) ∧
  (∀ (c : Config) (a d : Nat), wrapSafeDiff c a ((a + d) % 2 ^ c.w) = d % 2 ^ c.w ∧
    (d < 2 ^ c.w → wrapSafeDiff c a ((a + d) % 2 ^ c.w) = d)) ∧
  (∀ (s t u v : State) (n : BitVec 24), exec .rise s = .next t → exec (.adv n) t = .next u → exec .rise u = .next v →
    wrapSafeDiff v.cfg v.prevRising v.rising = n.toNat % 2 ^ s.cfg.w)

/-! ## The estimator -/

/-- R132: the glitch test is the comparison of the deviation from the running mean `SUM / CNT` with `GLITCH_PCT` percent
of it, strict; an empty window rejects nothing; with `SUM` = 0 every non-zero bit time is a glitch and 0 is not; with
50 percent and a mean of 125 ticks the accepted range is 63 to 187. -/
def Obligations.GlitchTestIsTheBandAroundTheRunningMean : Prop :=
  ∀ (s : State) (bt : Nat),
    (s.cnt = 0 → ¬ Glitch s bt) ∧
    (1 ≤ s.cnt → (Glitch s bt ↔
      ((s.cfg.glitchPct : Rat) / 100) * ((s.sum : Rat) / (s.cnt : Rat)) < |(bt : Rat) - (s.sum : Rat) / (s.cnt : Rat)|)) ∧
    (1 ≤ s.cnt → s.sum = 0 → (Glitch s bt ↔ bt ≠ 0)) ∧
    (1 ≤ s.cnt → s.cfg.glitchPct = 50 → s.sum = 125 * s.cnt → (¬ Glitch s bt ↔ 63 ≤ bt ∧ bt ≤ 187))

/-- R133: a glitch is recorded and changes nothing in the estimator; an accepted bit time enters the window as its
youngest entry, a full window dropping its oldest; at the N-th newly accepted sample the sum of the window is
emitted, kept as the latest FrequencyError, and `FRESH` returns to 0. Nothing else changes. -/
def Obligations.EstimatorKeepsTheWindowAndEmitsOncePerN : Prop :=
  ∀ (s : State) (bt : Nat), EstInv s →
    (Glitch s bt → est bt s = (none, { s with out := s.out ++ [.evt .edgeGlitch] })) ∧
    (¬ Glitch s bt → s.fresh + 1 ≠ s.cfg.n → est bt s = (none, { s with
      win := windowWith s bt, cnt := (windowWith s bt).length, sum := (windowWith s bt).sum, fresh := s.fresh + 1 })) ∧
    (¬ Glitch s bt → s.fresh + 1 = s.cfg.n → (windowWith s bt).length = s.cfg.n ∧
      est bt s = (some (windowWith s bt).sum, { s with
        win := windowWith s bt, cnt := s.cfg.n, sum := (windowWith s bt).sum, fresh := 0
        feValid := true, feSum := (windowWith s bt).sum }))

/-- R136 and R139: the frequency error of a window sum is 100 (S − N E) / (N E) percent, 0 exactly at S = N E, and the
tolerance test is that its magnitude is at most `TOL_PCT`, inclusive: from 3920 to 4080 in the reference configuration,
from 490 to 510 in the test configuration. -/
def Obligations.ToleranceTestIsABoundOnTheFrequencyError : Prop :=
  (∀ (c : Config) (S : Nat), c.Valid →
    freqErrorPct c S = 100 * ((S : Rat) - (c.n * c.e : Nat)) / (c.n * c.e : Nat) ∧
    (freqErrorPct c S = 0 ↔ S = c.n * c.e) ∧
    (InTol c S ↔ |freqErrorPct c S| ≤ c.tolPct)) ∧
  (∀ S : Nat, (InTol Config.refcfg S ↔ 3920 ≤ S ∧ S ≤ 4080) ∧ (InTol Config.testcfg S ↔ 490 ≤ S ∧ S ≤ 510)) ∧
  freqErrorPct Config.refcfg 3808 = -48 / 10 ∧ freqErrorPct Config.refcfg 4200 = 5

/-- R138: `measured_khz` is `TARGET_KHZ × S / (N × E)` rounded down. -/
def Obligations.MeasuredFrequencyIsRoundedDown : Prop :=
  (∀ (c : Config) (S : Nat), c.Valid →
    ((measuredKhz c S : Nat) : Rat) ≤ (c.targetKhz : Rat) * S / ((c.n : Rat) * c.e) ∧
    (c.targetKhz : Rat) * S / ((c.n : Rat) * c.e) < ((measuredKhz c S : Nat) : Rat) + 1) ∧
  measuredKhz Config.refcfg 4000 = 100000 ∧ measuredKhz Config.refcfg 3808 = 95200 ∧
  measuredKhz Config.refcfg 4080 = 102000

/-! ## The controller -/

/-- R151: the transitions of `LS`, complete, with the counters each leaves; while `Locked` nothing but these changes, so
that the demoting window applies no correction step (R158), and the BREAK event changes nothing but these and `OUT`,
which gains `AcquisitionTimeout` (R156). -/
def Obligations.LockStateTransitionsAreTheTable : Prop :=
  ∀ (s : State) (S : Nat), s.cfg.Valid → CtrlInv s →
    let t := ctrl S s
    (s.ls = .unlocked → InTol s.cfg S →
      (t.ls, t.good, t.bad, t.attempts) = if s.cfg.m = 1 then (.locked, 0, 0, 0) else (.converging, 1, 0, 0)) ∧
    (s.ls = .unlocked → ¬ InTol s.cfg S → (t.ls, t.good, t.bad, t.attempts) = (.converging, 0, 0, 1)) ∧
    (s.ls = .converging → InTol s.cfg S → (t.ls, t.good, t.bad, t.attempts) =
      if s.good + 1 = s.cfg.m then (.locked, 0, 0, 0) else (.converging, s.good + 1, 0, s.attempts)) ∧
    (s.ls = .converging → ¬ InTol s.cfg S → (t.ls, t.good, t.bad, t.attempts) =
      if s.attempts = s.cfg.maxAttempts then (.unlocked, 0, 0, 0) else (.converging, 0, 0, s.attempts + 1)) ∧
    (s.ls = .locked → InTol s.cfg S → (t.ls, t.good, t.bad, t.attempts) = (.locked, 0, 0, 0)) ∧
    (s.ls = .locked → ¬ InTol s.cfg S → (t.ls, t.good, t.bad, t.attempts) =
      if s.bad + 1 = s.cfg.m then (.converging, 0, 0, 0) else (.locked, 0, s.bad + 1, 0)) ∧
    (s.ls = .locked → t = { s with ls := t.ls, good := t.good, bad := t.bad, attempts := t.attempts }) ∧
    (s.ls = .converging → ¬ InTol s.cfg S → s.attempts = s.cfg.maxAttempts → t = { s with
      ls := .unlocked, good := 0, bad := 0, attempts := 0, out := s.out ++ [.evt .acquisitionTimeout] })

/-- R157: applying a DriveConfig issues `SETDIV`, `SETDC`, `SETRNG` in this order, each only if its part changed; then
`DC` is the new DriveConfig, the oscillator holds it too, and the window is reset, and if it is the old one nothing at
all changes. Nothing else changes. -/
def Obligations.ApplyingAStepIssuesTheCommandsAndResetsTheWindow : Prop :=
  ∀ (s : State) (dc' : DriveConfig), s.oscDc = s.dc →
    (dc' = s.dc → applyStep dc' s = s) ∧
    (dc' ≠ s.dc → applyStep dc' s = { s with
      dc := dc', oscDc := dc', win := [], cnt := 0, sum := 0, fresh := 0
      out := s.out ++
        (if dc'.div ≠ s.dc.div then [.cmd (.setdiv dc'.div)] else []) ++
        (if dc'.ds ≠ s.dc.ds then [.cmd (.setdc (packDs dc'.ds))] else []) ++
        (if dc'.rng ≠ s.dc.rng then [.cmd (.setrng dc'.rng)] else []) })

/-- A correction step (42_oscillator_controller.md section 1): out of tolerance while `Unlocked` or `Converging` with
budget left, the controller spends an attempt and applies what the law answers, at most one command; `FE_VALID`,
`FE_SUM` and everything outside the controller, the window and the oscillator stay. -/
def Obligations.ACorrectionStepAppliesTheLaw : Prop :=
  ∀ (s : State) (S : Nat), s.cfg.Valid → LawOk s.cfg → CtrlInv s → DriveInv s → ¬ InTol s.cfg S →
    (s.ls = .unlocked ∨ (s.ls = .converging ∧ s.attempts < s.cfg.maxAttempts)) →
    ∃ new : List OutRec, new.length ≤ 1 ∧
      new =
        (if (runLaw s.cfg s.dc S).div ≠ s.dc.div then [.cmd (.setdiv (runLaw s.cfg s.dc S).div)] else []) ++
        (if (runLaw s.cfg s.dc S).ds ≠ s.dc.ds then [.cmd (.setdc (packDs (runLaw s.cfg s.dc S).ds))] else []) ∧
      ctrl S s = { s with
        ls := .converging, good := 0, bad := 0, attempts := s.attempts + 1
        dc := runLaw s.cfg s.dc S, oscDc := runLaw s.cfg s.dc S
        win := if runLaw s.cfg s.dc S = s.dc then s.win else []
        cnt := if runLaw s.cfg s.dc S = s.dc then s.cnt else 0
        sum := if runLaw s.cfg s.dc S = s.dc then s.sum else 0
        fresh := if runLaw s.cfg s.dc S = s.dc then s.fresh else 0
        out := s.out ++ new }

/-- The BREAK event (42_oscillator_controller.md section 1): from `Unlocked`, out-of-tolerance windows alone give
exactly `MAX_ATTEMPTS` correction steps while `Converging`, and only the next one is the BREAK event, which returns
`LS` to `Unlocked`, clears `ATTEMPTS` and records `AcquisitionTimeout`, leaving the DriveConfig and the window. -/
def Obligations.BreakComesAfterExactlyTheBudget : Prop :=
  ∀ (s : State) (Ss : List Nat) (S : Nat), s.cfg.Valid → CtrlInv s → s.ls = .unlocked →
    (∀ T ∈ Ss, ¬ InTol s.cfg T) → ¬ InTol s.cfg S → Ss ≠ [] → Ss.length ≤ s.cfg.maxAttempts →
    let t := Ss.foldl (fun u T => ctrl T u) s
    t.ls = .converging ∧ t.attempts = Ss.length ∧
    t.out.count (.evt .acquisitionTimeout) = s.out.count (.evt .acquisitionTimeout) ∧
    (Ss.length = s.cfg.maxAttempts → ctrl S t = { t with
      ls := .unlocked, good := 0, attempts := 0, out := t.out ++ [.evt .acquisitionTimeout] })

/-- R159: an in-tolerance window changes no DriveConfig, issues no command and leaves the window; and from `Unlocked`,
M windows whose sum is exactly N E lock, with nothing appended to `OUT` and no DriveConfig change. -/
def Obligations.DeadbandMakesNoChangeAtTarget : Prop :=
  (∀ (s : State) (S : Nat), InTol s.cfg S → ∃ (l : LockState) (g b a : Nat),
    ctrl S s = { s with ls := l, good := g, bad := b, attempts := a }) ∧
  (∀ s : State, s.cfg.Valid → CtrlInv s → s.ls = .unlocked →
    (List.replicate s.cfg.m (s.cfg.n * s.cfg.e)).foldl (fun u T => ctrl T u) s =
      { s with ls := .locked, good := 0, bad := 0, attempts := 0 })

/-- R150 with the pass (45_cross_core_and_capability.md section 1) and the reset (section 4) beside it: in the stimulus
operations `LS`, the counters, `DC` and the oscillator's DriveConfig change only in a `FALL` that emits a window sum or
in `RST`; and every `FALL` that emits runs CTRL on that sum: what it leaves there is what CTRL makes of it. -/
def Obligations.ControllerStateChangesOnlyAtAnEmission : Prop :=
  ∀ (i : Instr) (s t : State), Inv s → i.opClass = .stimulus → exec i s = .next t →
    (ctrlView t ≠ ctrlView s → i = .rst ∨ (i = .fall ∧ Emits s)) ∧
    (i = .fall → Emits s → ctrlView t = ctrlView (ctrl (emittedSum s) s))

/-- "DriveConfig persists for the process lifetime, mutated only while Converging" (10_state.md section 6): a stimulus
operation other than `RST` that changes `DC` is a `FALL` that emitted an out-of-tolerance sum, found `LS` `Unlocked` or
`Converging` and leaves it `Converging`, and `DC` is what the law answers. -/
def Obligations.DriveConfigChangesOnlyWhileConverging : Prop :=
  ∀ (i : Instr) (s t : State), Inv s → i.opClass = .stimulus → exec i s = .next t → i ≠ .rst → t.dc ≠ s.dc →
    i = .fall ∧ Emits s ∧ ¬ InTol s.cfg (emittedSum s) ∧ s.ls ≠ .locked ∧ t.ls = .converging ∧
    t.dc = runLaw s.cfg s.dc (emittedSum s) ∧ t.oscDc = t.dc ∧ t.win = []

/-- `LS` returns to `Unlocked` only at the BREAK event or at the hard reset (42_oscillator_controller.md section 1,
60_exceptions.md section 4): a stimulus operation that takes `LS` to `Unlocked` from another value is `RST`, or a `FALL`
that emits an out-of-tolerance sum while `Converging` with the budget spent, and records `AcquisitionTimeout`. -/
def Obligations.UnlockedIsReachedOnlyByBreakOrReset : Prop :=
  ∀ (i : Instr) (s t : State), Inv s → i.opClass = .stimulus → exec i s = .next t →
    s.ls ≠ .unlocked → t.ls = .unlocked →
    i = .rst ∨ (i = .fall ∧ Emits s ∧ ¬ InTol s.cfg (emittedSum s) ∧ s.ls = .converging ∧
      s.attempts = s.cfg.maxAttempts ∧ OutRec.evt .acquisitionTimeout ∈ t.out.drop s.out.length ∧ t.dc = s.dc)

/-- The reference law meets the constraints (a) to (c) on a law under every valid configuration
(42_oscillator_controller.md section 2; its two assumptions about the oscillator are the spec's general knowledge and
play no part). -/
def Obligations.ReferenceLawMeetsTheConstraints : Prop :=
  ∀ c : Config, c.Valid → c.law = .reference → LawOk c

/-- The reference law's results in the reference configuration (42_oscillator_controller.md section 2, worked values). -/
def Obligations.ReferenceLawWorkedValues : Prop :=
  let dc := DriveConfig.refReset
  runLaw Config.refcfg dc 3808 = { dc with div := 15 } ∧
  runLaw Config.refcfg dc 4200 = { dc with div := 17 } ∧
  runLaw Config.refcfg dc 4100 = dc ∧
  runLaw Config.refcfg dc 3900 = { dc with ds := #v[1, 0, 0, 0, 0, 0, 0, 0] } ∧
  runLaw Config.refcfg { dc with div := 1 } 3600 = { ds := #v[3, 0, 0, 0, 0, 0, 0, 0], div := 1, rng := .low }

/-! ## The cadence and the signaler -/

/-- R182 (the counter of 43_frame_assembler.md): `BITCNT` counts every sample modulo `FRAME_BITS`, whatever `LS` is and whether or not the sample was
a glitch, and no other stimulus operation but `RST` changes it. -/
def Obligations.FrameCounterCountsEverySample : Prop :=
  ∀ (i : Instr) (s t : State), i.opClass = .stimulus → exec i s = .next t → i ≠ .rst →
    (i = .fall → SampleBearing s → s.bitcnt < s.cfg.frameBits → t.bitcnt = (s.bitcnt + 1) % s.cfg.frameBits) ∧
    (¬ (i = .fall ∧ SampleBearing s) → t.bitcnt = s.bitcnt)

/-- R191 with the cadence of 43_frame_assembler.md: a stimulus operation appends an `EMIT` record exactly when it is a
`FALL` at a boundary, exactly one, and its code is `Lock` if `LS` is `Locked` after CTRL ran in that pass, else
`Break`. -/
def Obligations.OneCodePerBoundarySaysWhetherLocked : Prop :=
  ∀ (i : Instr) (s t : State), i.opClass = .stimulus → exec i s = .next t →
    emitRecords t.out = emitRecords s.out ++
      (if i = .fall ∧ Boundary s then [if t.ls = .locked then .emit .lock else .emit .brk] else [])

/-- R192: at a boundary the code of `LS` is started at its first symbol, a running transmission being recorded as
`LinkSaturation` and dropped, and the code is recorded; nothing else changes. -/
def Obligations.SignalerStartsTheCodeAfresh : Prop :=
  ∀ s : State,
    let c := if s.ls = .locked then StatusCode.lock else StatusCode.brk
    sig s = { s with
      txActive := true, txCode := c, txElapsed := 0
      out := s.out ++ (if s.txActive = true then [.evt .linkSaturation] else []) ++ [.emit c] }

/-- Which error kinds and commands a stimulus operation records (60_exceptions.md sections 1 to 3; the commands by
42_oscillator_controller.md sections 1 and 2 and 70_reset_and_hazards.md section 1): `OUT` only grows; `EdgeGlitch`
exactly at a sample the band rejects; `AcquisitionTimeout` exactly at an emitted out-of-tolerance sum while `Converging`
with the budget spent; `LinkSaturation` exactly at a boundary that finds a code running; `CounterRollover` never;
`SETDIV` and `SETDC` exactly at a correction step whose law answer changes the divider or the strengths, with the answer
as argument; `GETDC` exactly in `RST`, `SETRNG` never, every command well-formed. -/
def Obligations.EventsAndCommandsAreRecordedExactlyWhereRaised : Prop :=
  ∀ (i : Instr) (s t : State), Inv s → i.opClass = .stimulus → exec i s = .next t →
    ∃ new : List OutRec, t.out = s.out ++ new ∧
      (OutRec.evt .edgeGlitch ∈ new ↔ i = .fall ∧ SampleBearing s ∧ Glitch s (sampleNow s).bt) ∧
      (OutRec.evt .acquisitionTimeout ∈ new ↔
        i = .fall ∧ Emits s ∧ ¬ InTol s.cfg (emittedSum s) ∧ s.ls = .converging ∧ s.attempts = s.cfg.maxAttempts) ∧
      (OutRec.evt .linkSaturation ∈ new ↔ i = .fall ∧ Boundary s ∧ s.txActive = true) ∧
      OutRec.evt .counterRollover ∉ new ∧
      (∀ d, OutRec.cmd (.setdiv d) ∈ new ↔
        i = .fall ∧ CorrectionDue s ∧ (lawAnswer s).div ≠ s.dc.div ∧ d = (lawAnswer s).div) ∧
      (∀ ds, OutRec.cmd (.setdc ds) ∈ new ↔
        i = .fall ∧ CorrectionDue s ∧ (lawAnswer s).ds ≠ s.dc.ds ∧ ds = packDs (lawAnswer s).ds) ∧
      (OutRec.reset ∈ new ↔ i = .rst) ∧ (OutRec.cmd .getdc ∈ new ↔ i = .rst) ∧
      (∀ r, OutRec.cmd (.setrng r) ∉ new) ∧
      (∀ c, OutRec.cmd c ∈ new → c.instr.WellFormed) ∧
      new.length ≤ 3

/-- What a `FALL` that completes a sample appends to `OUT`, in the order of the stages
(45_cross_core_and_capability.md section 1): the rejected sample's `EdgeGlitch`; then the controller's one record, the
`AcquisitionTimeout` or a command, if any; then `LinkSaturation`; then the code. -/
def Obligations.FallRecordsInStageOrder : Prop :=
  ∀ s t : State, Inv s → exec .fall s = .next t → SampleBearing s →
    ∃ c : List OutRec, c.length ≤ 1 ∧ (∀ r ∈ c, r = .evt .acquisitionTimeout ∨ ∃ k, r = .cmd k) ∧
      (Glitch s (sampleNow s).bt → c = []) ∧
      t.out = s.out ++ (if Glitch s (sampleNow s).bt then [.evt .edgeGlitch] else []) ++ c ++
        (if Boundary s ∧ s.txActive = true then [.evt .linkSaturation] else []) ++
        (if Boundary s then [if t.ls = .locked then .emit .lock else .emit .brk] else [])

/-- R195 and R196: the pin is 1 exactly while a transmission is active and the symbol at its elapsed ticks, first symbol
at the most significant bit of the codeword, is 1; and t ticks into an `ADV` it has the value of the elapsed ticks
plus t, 0 from the end of the code on. -/
def Obligations.SinkFollowsTheCodeword : Prop :=
  (∀ s : State, sink s =
    (s.txActive && (match s.txCode with | .lock => s.cfg.codeLock | .brk => s.cfg.codeBreak).testBit
      (s.cfg.codeLen - 1 - s.txElapsed / s.cfg.symbolTicks))) ∧
  (∀ (s u : State) (t : BitVec 24), exec (.adv t) s = .next u → sink u = sinkAfter s t.toNat) ∧
  (∀ (s : State) (t : Nat), sinkAfter s t =
    (decide (s.txElapsed + t < s.cfg.codeLen * s.cfg.symbolTicks) && sink { s with txElapsed := s.txElapsed + t }))

/-! ## The pass, the publication and the reader -/

/-- R214 (with R213): after a `FALL` that made a sample the publication is the record of the new `LS`, the new `DC` and
that sample, glitch or not; `RST` publishes the boot record; nothing else writes it. -/
def Obligations.EveryPassPublishesItsOwnState : Prop :=
  ∀ (i : Instr) (s t : State), exec i s = .next t →
    (i = .fall → SampleBearing s → t.pub =
      { ls := t.ls, dc := t.dc, bt := (sampleNow s).bt, pw := (sampleNow s).pw, val := (sampleNow s).val, valid := true } ∧
      t.smpBt = (sampleNow s).bt ∧ t.smpPw = (sampleNow s).pw ∧ t.smpVal = (sampleNow s).val ∧ t.smpValid = true) ∧
    (i = .rst → t.pub =
      { ls := .unlocked, dc := s.cfg.driveReset, bt := 0, pw := 0, val := false, valid := false }) ∧
    (i ≠ .rst → ¬ (i = .fall ∧ SampleBearing s) → t.pub = s.pub)

/-- What a `FALL` leaves unchanged (10_state.md section 10): time, the latched timestamps, the reader's state, the
configuration, the operations still to come and the port's response always; the transmitter unless it is a boundary;
the latest FrequencyError and `DC` unless it emits; the estimator's window unless it accepts a sample. -/
def Obligations.FallLeavesTheRestUnchanged : Prop :=
  ∀ s t : State, Inv s → exec .fall s = .next t →
    t.cfg = s.cfg ∧ t.input = s.input ∧ t.tick = s.tick ∧ t.rising = s.rising ∧ t.prevRising = s.prevRising ∧
    t.nrise = s.nrise ∧ t.armed = false ∧ t.handoff = s.handoff ∧ t.polls = s.polls ∧ t.capResp = s.capResp ∧
    (¬ Boundary s → t.txActive = s.txActive ∧ t.txCode = s.txCode ∧ t.txElapsed = s.txElapsed) ∧
    (¬ Emits s → t.feValid = s.feValid ∧ t.feSum = s.feSum ∧ t.dc = s.dc ∧ t.oscDc = s.oscDc) ∧
    (Emits s → t.feValid = true ∧ t.feSum = emittedSum s) ∧
    (¬ SampleBearing s ∨ Glitch s (sampleNow s).bt →
      t.win = s.win ∧ t.cnt = s.cnt ∧ t.sum = s.sum ∧ t.fresh = s.fresh)

/-- What a pass does with its sample (45_cross_core_and_capability.md section 1): an accepted one enters the window
(41_frequency_estimator.md section 3) and `FRESH` counts it, the emitting one returning `FRESH` to 0; the window stays so
unless the pass changed `DC`, which empties it; and at a boundary the code of the new `LS` is started at its first symbol
(44_power_line_signaler.md section 1). -/
def Obligations.FallFeedsTheWindowAndTheSignaler : Prop :=
  ∀ s t : State, Inv s → exec .fall s = .next t → SampleBearing s →
    let w := windowWith s (sampleNow s).bt
    (¬ Glitch s (sampleNow s).bt → ¬ Emits s → windowView t = (w, w.length, w.sum, s.fresh + 1)) ∧
    (Emits s → t.dc = s.dc → w.length = s.cfg.n ∧ windowView t = (w, s.cfg.n, w.sum, 0)) ∧
    (Emits s → t.dc ≠ s.dc → windowView t = ([], 0, 0, 0)) ∧
    (Boundary s → t.txActive = true ∧ t.txCode = (if t.ls = .locked then .lock else .brk) ∧ t.txElapsed = 0)

/-- `POLL` (45_cross_core_and_capability.md section 3) returns the four words of the publication and sets `HANDOFF` when
its `ls` is `Locked`; nothing else changes. The list that keeps the results is the model's choice (log entry 9). -/
def Obligations.PollReturnsThePublication : Prop :=
  ∀ s : State, exec .poll s = .next { s with
    polls := s.polls ++ [s.pub.words]
    handoff := if s.pub.ls = .locked then true else s.handoff }

/-- R95: the fields of the publication words and their reserved bits. -/
def Obligations.PublicationWordsHoldTheirFields : Prop :=
  ∀ p : Snapshot, p.bt < 2 ^ 32 → p.pw < 2 ^ 32 →
    p.words.pub0.extractLsb' 0 2 = p.ls.code ∧ p.words.pub0.extractLsb' 2 6 = 0 ∧
    p.words.pub0.getLsbD 8 = p.val ∧ p.words.pub0.getLsbD 9 = p.valid ∧ p.words.pub0.extractLsb' 10 22 = 0 ∧
    p.words.pub1.extractLsb' 0 24 = packDc p.dc ∧ p.words.pub1.extractLsb' 24 8 = 0 ∧
    p.words.pub2.toNat = p.bt ∧ p.words.pub3.toNat = p.pw

/-- The handoff is one-shot and irrevocable (45_cross_core_and_capability.md section 3): only a `POLL` of a publication
that says `Locked` sets `HANDOFF`, only `RST` clears it. -/
def Obligations.HandoffIsOneShotAndIrrevocable : Prop :=
  ∀ (i : Instr) (s t : State), exec i s = .next t →
    (s.handoff = true → i ≠ .rst → t.handoff = true) ∧
    (s.handoff = false → t.handoff = true → i = .poll ∧ s.pub.ls = .locked) ∧
    (i = .rst → t.handoff = false)

/-- The reader context never disturbs the block (60_exceptions.md section 5, 45_cross_core_and_capability.md section 6):
whatever the reader's state is, every operation does the same to everything else, and `POLL` writes nothing else. -/
def Obligations.ReaderNeverDisturbsTheBlock : Prop :=
  (∀ (i : Instr) (s t : State) (h : Bool) (p : List PubWords), exec i s = .next t →
    ∃ t', exec i (withReaderState s h p) = .next t' ∧ withReaderState t' t.handoff t.polls = t) ∧
  (∀ s t : State, exec .poll s = .next t → withReaderState t s.handoff s.polls = s)

/-! ## The reset -/

/-- `RST` (45_cross_core_and_capability.md section 4, 70_reset_and_hazards.md section 1) returns every piece of state to its
reset value, appends `RESET` and the boot `GETDC` to `OUT`, which is not cleared, loads `DC` from the oscillator and
publishes. That the operations still to come and the reader's results are kept is the model's choice (log entry 25), and
so is the field that keeps the port's response, whose value after `RST`, the boot `GETDC`'s result, is inferred (log
entry 10). -/
def Obligations.RstReturnsTheMachineToReset : Prop :=
  ∀ s : State, exec .rst s = .next { State.resetOf s.cfg with
    input := s.input, polls := s.polls, out := s.out ++ [.reset, .cmd .getdc] }

/-- The reset table (10_state.md section 11): the value of every piece of state after the hard reset and boot, from every
state and under any configuration; `OUT` is not reset and gains `RESET` and the boot `GETDC`. A run starts in the same
values. That `OUT` is empty there is the model's choice (log entry 13), and so is that `State.reset` has the reference
configuration (log entry 1). -/
def Obligations.ResetValuesAreTheTable : Prop :=
  (∀ s : State, ∃ t, exec .rst s = .next t ∧ ResetTable s.cfg t ∧ t.out = s.out ++ [.reset, .cmd .getdc]) ∧
  (∀ c : Config, ResetTable c (State.resetOf c)) ∧ State.reset = State.resetOf Config.refcfg

/-- The invariants hold at reset under every valid configuration whose law meets its constraints (10_state.md
section 10), and so in `State.reset` (the reference configuration, log entry 1). -/
def Obligations.InvariantsHoldAtReset : Prop :=
  (∀ c : Config, c.Valid → LawOk c → Inv (State.resetOf c)) ∧ Inv State.reset

/-- Every step keeps the invariants of 10_state.md R40, (I1) to (I8), from every state that has them. -/
def Obligations.EveryStepKeepsTheInvariants : Prop :=
  ∀ s t : State, Inv s → step s = .next t → Inv t

/-- No operation changes the configuration (20_memory.md section 5), and `OUT` only grows (10_state.md section 10). That
the operations still to come are a field that every operation, `RST` among them, leaves alone, and that the reader's
results are a list that only grows, through `RST` too, is the model's choice (log entries 6, 9 and 25). -/
def Obligations.ConfigurationIsFixedAndHistoriesGrow : Prop :=
  ∀ (i : Instr) (s t : State), exec i s = .next t →
    t.cfg = s.cfg ∧ t.input = s.input ∧ s.out <+: t.out ∧ s.polls <+: t.polls

/-! ## The oscillator's capability port and the records -/

/-- `GETDC` (45_cross_core_and_capability.md section 5) returns the packed `OSC_DC` and changes nothing else. The field
that keeps the response is the model's choice (log entry 10). -/
def Obligations.GetdcReturnsTheDriveConfig : Prop :=
  ∀ s : State, exec .getdc s = .next { s with capResp := packDc s.oscDc }

/-- R221: `SETDC` writes all eight strengths from its argument, stage i from bits 2i+1 : 2i, and nothing else. -/
def Obligations.SetdcWritesAllStrengths : Prop :=
  ∀ (ds : BitVec 16) (s : State), ∃ v : Vector (BitVec 2) 8,
    (∀ i : Fin 8, v[i.val] = ds.extractLsb' (2 * i.val) 2) ∧
    exec (.setdc ds) s = .next { s with oscDc := { s.oscDc with ds := v } }

/-- `SETDIV` (45_cross_core_and_capability.md section 5) writes the divider and nothing else; with a divider of 0 or above
32 it is an invalid word. That the meaning, given such a divider, refuses it is the model's inference (log entry 15). -/
def Obligations.SetdivWritesTheDivider : Prop :=
  ∀ (d : BitVec 6) (s : State),
    (1 ≤ d.toNat ∧ d.toNat ≤ 32 → exec (.setdiv d) s = .next { s with oscDc := { s.oscDc with div := d } }) ∧
    (d.toNat = 0 ∨ 32 < d.toNat → decodeWord (encode (.setdiv d)) = .invalid .reservedValue ∧
      exec (.setdiv d) s = .refused (.invalidWord .reservedValue))

/-- R223: `SETRNG` writes the range and nothing else; with code 3 it is an invalid word. -/
def Obligations.SetrngWritesTheRange : Prop :=
  (∀ (r : Range) (s : State), exec (.setrng r) s = .next { s with oscDc := { s.oscDc with rng := r } }) ∧
  decodeWord 0x13000003 = .invalid .reservedValue

/-- `EMIT` and `EVT` as operations of their own: `EMIT c` starts the code c and records it, `EVT k` records the error
kind, and nothing else changes (the model's choice for words the spec only gives as records, log entries 11 and 12). -/
def Obligations.RecordOperationsRecord : Prop :=
  (∀ (c : StatusCode) (s : State), exec (.emit c) s = .next { s with
    txActive := true, txCode := c, txElapsed := 0
    out := s.out ++ (if s.txActive = true then [.evt .linkSaturation] else []) ++ [.emit c] }) ∧
  (∀ (k : ErrorKind) (s : State), exec (.evt k) s = .next { s with out := s.out ++ [.evt k] })
end

