-- ==== Sys2Proof/Laws/Codec.lean ====
section
/-! SUPPORT. Small laws of the encodings: fields of a word, the enumeration codes, the packed strengths. -/

namespace Sys2Proof

/-- A bit of a placed field. -/
@[simp] theorem place_getLsbD (n lo : Nat) {k : Nat} (v : BitVec k) (i : Nat) :
    (place n lo v).getLsbD i = (decide (i < n) && (decide (lo ≤ i) && v.getLsbD (i - lo))) := by
  by_cases h : i < n
  · by_cases h' : lo ≤ i
    · simp [place, h, h']
    · simp [place, h, h', Nat.lt_of_not_le h']
  · simp [place, h]

/-- A bit of a placed field, within the word. -/
@[simp] theorem place_getElem (n lo : Nat) {k : Nat} (v : BitVec k) (i : Nat) (h : i < n) :
    (place n lo v)[i] = (decide (lo ≤ i) && v.getLsbD (i - lo)) := by
  rw [← BitVec.getLsbD_eq_getElem, place_getLsbD]; simp [h]

/-- The opcode field of an opcode over an argument. -/
@[simp] theorem opField_place (op : BitVec 8) (arg : BitVec 24) :
    opField (place 32 24 op ||| place 32 0 arg) = op := by
  apply BitVec.eq_of_getLsbD_eq
  intro i hi
  simp [opField, hi, show 24 + i < 32 by omega]

/-- The argument field of an opcode over an argument. -/
@[simp] theorem argField_place (op : BitVec 8) (arg : BitVec 24) :
    argField (place 32 24 op ||| place 32 0 arg) = arg := by
  apply BitVec.eq_of_getLsbD_eq
  intro i hi
  simp [argField, hi, show i < 32 by omega, show ¬ 24 ≤ i by omega]

/-- A word is its opcode field over its argument field. -/
theorem place_opField_argField (w : Word) : place 32 24 (opField w) ||| place 32 0 (argField w) = w := by
  apply BitVec.eq_of_getLsbD_eq
  intro i hi
  by_cases h : i < 24
  · simp [opField, argField, hi, h, show ¬ 24 ≤ i by omega]
  · simp [opField, argField, hi, show 24 ≤ i by omega, show i - 24 < 8 by omega, show 24 + (i - 24) = i by omega]

/-- A field placed at bit 0 of a wider word reads back. -/
@[simp] theorem extractLsb'_place_zero (n k : Nat) (h : k ≤ n) (v : BitVec k) :
    (place n 0 v).extractLsb' 0 k = v := by
  apply BitVec.eq_of_getLsbD_eq
  intro i hi
  simp [hi, show i < n by omega]

/-- The bits above a field placed at bit 0 are 0. -/
@[simp] theorem extractLsb'_place_zero_above (n k m : Nat) (v : BitVec k) : (place n 0 v).extractLsb' k m = 0 := by
  apply BitVec.eq_of_getLsbD_eq
  intro i hi
  simp

/-- A word whose bits above its first k are 0 is that field placed at bit 0. -/
theorem place_extractLsb'_of_above_zero (n k : Nat) (v : BitVec n) (h : v.extractLsb' k (n - k) = 0) :
    place n 0 (v.extractLsb' 0 k) = v := by
  apply BitVec.eq_of_getLsbD_eq
  intro i hi
  by_cases hk : i < k
  · simp [hi, hk]
  · have := congrArg (fun b => b.getLsbD (i - k)) h
    simp only [BitVec.getLsbD_extractLsb', show i - k < n - k by omega, show k + (i - k) = i by omega] at this
    simp at this
    simp [hk, this]

/-- Reading a range code back. -/
@[simp] theorem Range.ofCode_code (r : Range) : Range.ofCode r.code = some r := by cases r <;> rfl

/-- A range read is the one with that code. -/
theorem Range.code_of_ofCode {b : BitVec 2} {r : Range} (h : Range.ofCode b = some r) : r.code = b := by
  revert h; revert b; cases r <;> decide

/-- Reading a status code back. -/
@[simp] theorem StatusCode.ofCode_code (c : StatusCode) : StatusCode.ofCode c.code = c := by cases c <;> rfl

/-- A status code read has that code. -/
@[simp] theorem StatusCode.code_ofCode (b : BitVec 1) : (StatusCode.ofCode b).code = b := by revert b; decide

/-- Reading a cause code back. -/
@[simp] theorem ErrorKind.ofCode_code (k : ErrorKind) : ErrorKind.ofCode k.code = some k := by cases k <;> rfl

/-- An error kind read is the one with that cause code. -/
theorem ErrorKind.code_of_ofCode {b : BitVec 8} {k : ErrorKind} (h : ErrorKind.ofCode b = some k) : k.code = b := by
  simp only [ErrorKind.ofCode] at h
  split_ifs at h <;> (cases h; simp_all [ErrorKind.code])

/-- A strength of an unpacked argument. -/
@[simp] theorem unpackDs_getElem (ds : BitVec 16) (i : Nat) (h : i < 8) :
    (unpackDs ds)[i] = ds.extractLsb' (2 * i) 2 := by simp [unpackDs]

/-- Strength i stands at bits 2i+1 : 2i of the packed strengths. -/
theorem packDs_extract (v : Vector (BitVec 2) 8) (i : Nat) (h : i < 8) : (packDs v).extractLsb' (2 * i) 2 = v[i] := by
  apply BitVec.eq_of_getLsbD_eq
  intro j hj
  interval_cases i <;> interval_cases j <;> simp [packDs]

/-- Unpacking packed strengths gives them back. -/
@[simp] theorem unpackDs_packDs (v : Vector (BitVec 2) 8) : unpackDs (packDs v) = v := by
  ext i hi : 1
  rw [unpackDs_getElem, packDs_extract]

/-- The four bytes of a word, least significant first, give the word back. -/
@[simp] theorem wordOfBytes_bytesOfWord (w : Word) (rest : List Byte) :
    wordOfBytes (bytesOfWord w ++ rest) = some (w, rest) := by
  simp only [bytesOfWord, List.cons_append, List.nil_append, wordOfBytes, Option.some.injEq, Prod.mk.injEq, and_true]
  apply BitVec.eq_of_getLsbD_eq
  intro i hi
  interval_cases i <;> simp

end Sys2Proof
end

