-- ==== Sys2Proof/Laws/State.lean ====
section
/-! SUPPORT. What each plain state update does to each field: one lemma a field, so that no proof unfolds a record
update. -/

namespace Sys2Proof.Machine

/-! ### appending to `OUT` -/

@[simp] theorem emitRec_cfg (r : OutRec) (s : State) : (emitRec r s).cfg = s.cfg := rfl
@[simp] theorem emitRec_input (r : OutRec) (s : State) : (emitRec r s).input = s.input := rfl
@[simp] theorem emitRec_tick (r : OutRec) (s : State) : (emitRec r s).tick = s.tick := rfl
@[simp] theorem emitRec_rising (r : OutRec) (s : State) : (emitRec r s).rising = s.rising := rfl
@[simp] theorem emitRec_prevRising (r : OutRec) (s : State) : (emitRec r s).prevRising = s.prevRising := rfl
@[simp] theorem emitRec_nrise (r : OutRec) (s : State) : (emitRec r s).nrise = s.nrise := rfl
@[simp] theorem emitRec_armed (r : OutRec) (s : State) : (emitRec r s).armed = s.armed := rfl
@[simp] theorem emitRec_smpBt (r : OutRec) (s : State) : (emitRec r s).smpBt = s.smpBt := rfl
@[simp] theorem emitRec_smpPw (r : OutRec) (s : State) : (emitRec r s).smpPw = s.smpPw := rfl
@[simp] theorem emitRec_smpVal (r : OutRec) (s : State) : (emitRec r s).smpVal = s.smpVal := rfl
@[simp] theorem emitRec_smpValid (r : OutRec) (s : State) : (emitRec r s).smpValid = s.smpValid := rfl
@[simp] theorem emitRec_win (r : OutRec) (s : State) : (emitRec r s).win = s.win := rfl
@[simp] theorem emitRec_cnt (r : OutRec) (s : State) : (emitRec r s).cnt = s.cnt := rfl
@[simp] theorem emitRec_sum (r : OutRec) (s : State) : (emitRec r s).sum = s.sum := rfl
@[simp] theorem emitRec_fresh (r : OutRec) (s : State) : (emitRec r s).fresh = s.fresh := rfl
@[simp] theorem emitRec_feValid (r : OutRec) (s : State) : (emitRec r s).feValid = s.feValid := rfl
@[simp] theorem emitRec_feSum (r : OutRec) (s : State) : (emitRec r s).feSum = s.feSum := rfl
@[simp] theorem emitRec_ls (r : OutRec) (s : State) : (emitRec r s).ls = s.ls := rfl
@[simp] theorem emitRec_good (r : OutRec) (s : State) : (emitRec r s).good = s.good := rfl
@[simp] theorem emitRec_bad (r : OutRec) (s : State) : (emitRec r s).bad = s.bad := rfl
@[simp] theorem emitRec_attempts (r : OutRec) (s : State) : (emitRec r s).attempts = s.attempts := rfl
@[simp] theorem emitRec_dc (r : OutRec) (s : State) : (emitRec r s).dc = s.dc := rfl
@[simp] theorem emitRec_bitcnt (r : OutRec) (s : State) : (emitRec r s).bitcnt = s.bitcnt := rfl
@[simp] theorem emitRec_txActive (r : OutRec) (s : State) : (emitRec r s).txActive = s.txActive := rfl
@[simp] theorem emitRec_txCode (r : OutRec) (s : State) : (emitRec r s).txCode = s.txCode := rfl
@[simp] theorem emitRec_txElapsed (r : OutRec) (s : State) : (emitRec r s).txElapsed = s.txElapsed := rfl
@[simp] theorem emitRec_pub (r : OutRec) (s : State) : (emitRec r s).pub = s.pub := rfl
@[simp] theorem emitRec_handoff (r : OutRec) (s : State) : (emitRec r s).handoff = s.handoff := rfl
@[simp] theorem emitRec_polls (r : OutRec) (s : State) : (emitRec r s).polls = s.polls := rfl
@[simp] theorem emitRec_oscDc (r : OutRec) (s : State) : (emitRec r s).oscDc = s.oscDc := rfl
@[simp] theorem emitRec_capResp (r : OutRec) (s : State) : (emitRec r s).capResp = s.capResp := rfl
@[simp] theorem emitRec_out (r : OutRec) (s : State) : (emitRec r s).out = s.out ++ [r] := rfl

/-! ### recording an error kind -/

@[simp] theorem takeEvent_cfg (k : ErrorKind) (s : State) : (takeEvent k s).cfg = s.cfg := rfl
@[simp] theorem takeEvent_input (k : ErrorKind) (s : State) : (takeEvent k s).input = s.input := rfl
@[simp] theorem takeEvent_tick (k : ErrorKind) (s : State) : (takeEvent k s).tick = s.tick := rfl
@[simp] theorem takeEvent_rising (k : ErrorKind) (s : State) : (takeEvent k s).rising = s.rising := rfl
@[simp] theorem takeEvent_prevRising (k : ErrorKind) (s : State) : (takeEvent k s).prevRising = s.prevRising := rfl
@[simp] theorem takeEvent_nrise (k : ErrorKind) (s : State) : (takeEvent k s).nrise = s.nrise := rfl
@[simp] theorem takeEvent_armed (k : ErrorKind) (s : State) : (takeEvent k s).armed = s.armed := rfl
@[simp] theorem takeEvent_smpBt (k : ErrorKind) (s : State) : (takeEvent k s).smpBt = s.smpBt := rfl
@[simp] theorem takeEvent_smpPw (k : ErrorKind) (s : State) : (takeEvent k s).smpPw = s.smpPw := rfl
@[simp] theorem takeEvent_smpVal (k : ErrorKind) (s : State) : (takeEvent k s).smpVal = s.smpVal := rfl
@[simp] theorem takeEvent_smpValid (k : ErrorKind) (s : State) : (takeEvent k s).smpValid = s.smpValid := rfl
@[simp] theorem takeEvent_win (k : ErrorKind) (s : State) : (takeEvent k s).win = s.win := rfl
@[simp] theorem takeEvent_cnt (k : ErrorKind) (s : State) : (takeEvent k s).cnt = s.cnt := rfl
@[simp] theorem takeEvent_sum (k : ErrorKind) (s : State) : (takeEvent k s).sum = s.sum := rfl
@[simp] theorem takeEvent_fresh (k : ErrorKind) (s : State) : (takeEvent k s).fresh = s.fresh := rfl
@[simp] theorem takeEvent_feValid (k : ErrorKind) (s : State) : (takeEvent k s).feValid = s.feValid := rfl
@[simp] theorem takeEvent_feSum (k : ErrorKind) (s : State) : (takeEvent k s).feSum = s.feSum := rfl
@[simp] theorem takeEvent_ls (k : ErrorKind) (s : State) : (takeEvent k s).ls = s.ls := rfl
@[simp] theorem takeEvent_good (k : ErrorKind) (s : State) : (takeEvent k s).good = s.good := rfl
@[simp] theorem takeEvent_bad (k : ErrorKind) (s : State) : (takeEvent k s).bad = s.bad := rfl
@[simp] theorem takeEvent_attempts (k : ErrorKind) (s : State) : (takeEvent k s).attempts = s.attempts := rfl
@[simp] theorem takeEvent_dc (k : ErrorKind) (s : State) : (takeEvent k s).dc = s.dc := rfl
@[simp] theorem takeEvent_bitcnt (k : ErrorKind) (s : State) : (takeEvent k s).bitcnt = s.bitcnt := rfl
@[simp] theorem takeEvent_txActive (k : ErrorKind) (s : State) : (takeEvent k s).txActive = s.txActive := rfl
@[simp] theorem takeEvent_txCode (k : ErrorKind) (s : State) : (takeEvent k s).txCode = s.txCode := rfl
@[simp] theorem takeEvent_txElapsed (k : ErrorKind) (s : State) : (takeEvent k s).txElapsed = s.txElapsed := rfl
@[simp] theorem takeEvent_pub (k : ErrorKind) (s : State) : (takeEvent k s).pub = s.pub := rfl
@[simp] theorem takeEvent_handoff (k : ErrorKind) (s : State) : (takeEvent k s).handoff = s.handoff := rfl
@[simp] theorem takeEvent_polls (k : ErrorKind) (s : State) : (takeEvent k s).polls = s.polls := rfl
@[simp] theorem takeEvent_oscDc (k : ErrorKind) (s : State) : (takeEvent k s).oscDc = s.oscDc := rfl
@[simp] theorem takeEvent_capResp (k : ErrorKind) (s : State) : (takeEvent k s).capResp = s.capResp := rfl
@[simp] theorem takeEvent_out (k : ErrorKind) (s : State) : (takeEvent k s).out = s.out ++ [.evt k] := rfl

/-! ### the publication -/

@[simp] theorem publish_cfg (s : State) : (publish s).cfg = s.cfg := rfl
@[simp] theorem publish_input (s : State) : (publish s).input = s.input := rfl
@[simp] theorem publish_tick (s : State) : (publish s).tick = s.tick := rfl
@[simp] theorem publish_rising (s : State) : (publish s).rising = s.rising := rfl
@[simp] theorem publish_prevRising (s : State) : (publish s).prevRising = s.prevRising := rfl
@[simp] theorem publish_nrise (s : State) : (publish s).nrise = s.nrise := rfl
@[simp] theorem publish_armed (s : State) : (publish s).armed = s.armed := rfl
@[simp] theorem publish_smpBt (s : State) : (publish s).smpBt = s.smpBt := rfl
@[simp] theorem publish_smpPw (s : State) : (publish s).smpPw = s.smpPw := rfl
@[simp] theorem publish_smpVal (s : State) : (publish s).smpVal = s.smpVal := rfl
@[simp] theorem publish_smpValid (s : State) : (publish s).smpValid = s.smpValid := rfl
@[simp] theorem publish_win (s : State) : (publish s).win = s.win := rfl
@[simp] theorem publish_cnt (s : State) : (publish s).cnt = s.cnt := rfl
@[simp] theorem publish_sum (s : State) : (publish s).sum = s.sum := rfl
@[simp] theorem publish_fresh (s : State) : (publish s).fresh = s.fresh := rfl
@[simp] theorem publish_feValid (s : State) : (publish s).feValid = s.feValid := rfl
@[simp] theorem publish_feSum (s : State) : (publish s).feSum = s.feSum := rfl
@[simp] theorem publish_ls (s : State) : (publish s).ls = s.ls := rfl
@[simp] theorem publish_good (s : State) : (publish s).good = s.good := rfl
@[simp] theorem publish_bad (s : State) : (publish s).bad = s.bad := rfl
@[simp] theorem publish_attempts (s : State) : (publish s).attempts = s.attempts := rfl
@[simp] theorem publish_dc (s : State) : (publish s).dc = s.dc := rfl
@[simp] theorem publish_bitcnt (s : State) : (publish s).bitcnt = s.bitcnt := rfl
@[simp] theorem publish_txActive (s : State) : (publish s).txActive = s.txActive := rfl
@[simp] theorem publish_txCode (s : State) : (publish s).txCode = s.txCode := rfl
@[simp] theorem publish_txElapsed (s : State) : (publish s).txElapsed = s.txElapsed := rfl
@[simp] theorem publish_pub (s : State) : (publish s).pub = snapshot s := rfl
@[simp] theorem publish_handoff (s : State) : (publish s).handoff = s.handoff := rfl
@[simp] theorem publish_polls (s : State) : (publish s).polls = s.polls := rfl
@[simp] theorem publish_oscDc (s : State) : (publish s).oscDc = s.oscDc := rfl
@[simp] theorem publish_capResp (s : State) : (publish s).capResp = s.capResp := rfl
@[simp] theorem publish_out (s : State) : (publish s).out = s.out := rfl

/-! ### the window reset -/

@[simp] theorem wreset_cfg (s : State) : (wreset s).cfg = s.cfg := rfl
@[simp] theorem wreset_input (s : State) : (wreset s).input = s.input := rfl
@[simp] theorem wreset_tick (s : State) : (wreset s).tick = s.tick := rfl
@[simp] theorem wreset_rising (s : State) : (wreset s).rising = s.rising := rfl
@[simp] theorem wreset_prevRising (s : State) : (wreset s).prevRising = s.prevRising := rfl
@[simp] theorem wreset_nrise (s : State) : (wreset s).nrise = s.nrise := rfl
@[simp] theorem wreset_armed (s : State) : (wreset s).armed = s.armed := rfl
@[simp] theorem wreset_smpBt (s : State) : (wreset s).smpBt = s.smpBt := rfl
@[simp] theorem wreset_smpPw (s : State) : (wreset s).smpPw = s.smpPw := rfl
@[simp] theorem wreset_smpVal (s : State) : (wreset s).smpVal = s.smpVal := rfl
@[simp] theorem wreset_smpValid (s : State) : (wreset s).smpValid = s.smpValid := rfl
@[simp] theorem wreset_win (s : State) : (wreset s).win = [] := rfl
@[simp] theorem wreset_cnt (s : State) : (wreset s).cnt = 0 := rfl
@[simp] theorem wreset_sum (s : State) : (wreset s).sum = 0 := rfl
@[simp] theorem wreset_fresh (s : State) : (wreset s).fresh = 0 := rfl
@[simp] theorem wreset_feValid (s : State) : (wreset s).feValid = s.feValid := rfl
@[simp] theorem wreset_feSum (s : State) : (wreset s).feSum = s.feSum := rfl
@[simp] theorem wreset_ls (s : State) : (wreset s).ls = s.ls := rfl
@[simp] theorem wreset_good (s : State) : (wreset s).good = s.good := rfl
@[simp] theorem wreset_bad (s : State) : (wreset s).bad = s.bad := rfl
@[simp] theorem wreset_attempts (s : State) : (wreset s).attempts = s.attempts := rfl
@[simp] theorem wreset_dc (s : State) : (wreset s).dc = s.dc := rfl
@[simp] theorem wreset_bitcnt (s : State) : (wreset s).bitcnt = s.bitcnt := rfl
@[simp] theorem wreset_txActive (s : State) : (wreset s).txActive = s.txActive := rfl
@[simp] theorem wreset_txCode (s : State) : (wreset s).txCode = s.txCode := rfl
@[simp] theorem wreset_txElapsed (s : State) : (wreset s).txElapsed = s.txElapsed := rfl
@[simp] theorem wreset_pub (s : State) : (wreset s).pub = s.pub := rfl
@[simp] theorem wreset_handoff (s : State) : (wreset s).handoff = s.handoff := rfl
@[simp] theorem wreset_polls (s : State) : (wreset s).polls = s.polls := rfl
@[simp] theorem wreset_oscDc (s : State) : (wreset s).oscDc = s.oscDc := rfl
@[simp] theorem wreset_capResp (s : State) : (wreset s).capResp = s.capResp := rfl
@[simp] theorem wreset_out (s : State) : (wreset s).out = s.out := rfl

/-! ### `GETDC` at the device -/

@[simp] theorem devGetdc_cfg (s : State) : (devGetdc s).cfg = s.cfg := rfl
@[simp] theorem devGetdc_input (s : State) : (devGetdc s).input = s.input := rfl
@[simp] theorem devGetdc_tick (s : State) : (devGetdc s).tick = s.tick := rfl
@[simp] theorem devGetdc_rising (s : State) : (devGetdc s).rising = s.rising := rfl
@[simp] theorem devGetdc_prevRising (s : State) : (devGetdc s).prevRising = s.prevRising := rfl
@[simp] theorem devGetdc_nrise (s : State) : (devGetdc s).nrise = s.nrise := rfl
@[simp] theorem devGetdc_armed (s : State) : (devGetdc s).armed = s.armed := rfl
@[simp] theorem devGetdc_smpBt (s : State) : (devGetdc s).smpBt = s.smpBt := rfl
@[simp] theorem devGetdc_smpPw (s : State) : (devGetdc s).smpPw = s.smpPw := rfl
@[simp] theorem devGetdc_smpVal (s : State) : (devGetdc s).smpVal = s.smpVal := rfl
@[simp] theorem devGetdc_smpValid (s : State) : (devGetdc s).smpValid = s.smpValid := rfl
@[simp] theorem devGetdc_win (s : State) : (devGetdc s).win = s.win := rfl
@[simp] theorem devGetdc_cnt (s : State) : (devGetdc s).cnt = s.cnt := rfl
@[simp] theorem devGetdc_sum (s : State) : (devGetdc s).sum = s.sum := rfl
@[simp] theorem devGetdc_fresh (s : State) : (devGetdc s).fresh = s.fresh := rfl
@[simp] theorem devGetdc_feValid (s : State) : (devGetdc s).feValid = s.feValid := rfl
@[simp] theorem devGetdc_feSum (s : State) : (devGetdc s).feSum = s.feSum := rfl
@[simp] theorem devGetdc_ls (s : State) : (devGetdc s).ls = s.ls := rfl
@[simp] theorem devGetdc_good (s : State) : (devGetdc s).good = s.good := rfl
@[simp] theorem devGetdc_bad (s : State) : (devGetdc s).bad = s.bad := rfl
@[simp] theorem devGetdc_attempts (s : State) : (devGetdc s).attempts = s.attempts := rfl
@[simp] theorem devGetdc_dc (s : State) : (devGetdc s).dc = s.dc := rfl
@[simp] theorem devGetdc_bitcnt (s : State) : (devGetdc s).bitcnt = s.bitcnt := rfl
@[simp] theorem devGetdc_txActive (s : State) : (devGetdc s).txActive = s.txActive := rfl
@[simp] theorem devGetdc_txCode (s : State) : (devGetdc s).txCode = s.txCode := rfl
@[simp] theorem devGetdc_txElapsed (s : State) : (devGetdc s).txElapsed = s.txElapsed := rfl
@[simp] theorem devGetdc_pub (s : State) : (devGetdc s).pub = s.pub := rfl
@[simp] theorem devGetdc_handoff (s : State) : (devGetdc s).handoff = s.handoff := rfl
@[simp] theorem devGetdc_polls (s : State) : (devGetdc s).polls = s.polls := rfl
@[simp] theorem devGetdc_oscDc (s : State) : (devGetdc s).oscDc = s.oscDc := rfl
@[simp] theorem devGetdc_capResp (s : State) : (devGetdc s).capResp = packDc s.oscDc := rfl
@[simp] theorem devGetdc_out (s : State) : (devGetdc s).out = s.out := rfl

/-! ### `SETDC` at the device -/

@[simp] theorem devSetdc_cfg (ds : BitVec 16) (s : State) : (devSetdc ds s).cfg = s.cfg := rfl
@[simp] theorem devSetdc_input (ds : BitVec 16) (s : State) : (devSetdc ds s).input = s.input := rfl
@[simp] theorem devSetdc_tick (ds : BitVec 16) (s : State) : (devSetdc ds s).tick = s.tick := rfl
@[simp] theorem devSetdc_rising (ds : BitVec 16) (s : State) : (devSetdc ds s).rising = s.rising := rfl
@[simp] theorem devSetdc_prevRising (ds : BitVec 16) (s : State) : (devSetdc ds s).prevRising = s.prevRising := rfl
@[simp] theorem devSetdc_nrise (ds : BitVec 16) (s : State) : (devSetdc ds s).nrise = s.nrise := rfl
@[simp] theorem devSetdc_armed (ds : BitVec 16) (s : State) : (devSetdc ds s).armed = s.armed := rfl
@[simp] theorem devSetdc_smpBt (ds : BitVec 16) (s : State) : (devSetdc ds s).smpBt = s.smpBt := rfl
@[simp] theorem devSetdc_smpPw (ds : BitVec 16) (s : State) : (devSetdc ds s).smpPw = s.smpPw := rfl
@[simp] theorem devSetdc_smpVal (ds : BitVec 16) (s : State) : (devSetdc ds s).smpVal = s.smpVal := rfl
@[simp] theorem devSetdc_smpValid (ds : BitVec 16) (s : State) : (devSetdc ds s).smpValid = s.smpValid := rfl
@[simp] theorem devSetdc_win (ds : BitVec 16) (s : State) : (devSetdc ds s).win = s.win := rfl
@[simp] theorem devSetdc_cnt (ds : BitVec 16) (s : State) : (devSetdc ds s).cnt = s.cnt := rfl
@[simp] theorem devSetdc_sum (ds : BitVec 16) (s : State) : (devSetdc ds s).sum = s.sum := rfl
@[simp] theorem devSetdc_fresh (ds : BitVec 16) (s : State) : (devSetdc ds s).fresh = s.fresh := rfl
@[simp] theorem devSetdc_feValid (ds : BitVec 16) (s : State) : (devSetdc ds s).feValid = s.feValid := rfl
@[simp] theorem devSetdc_feSum (ds : BitVec 16) (s : State) : (devSetdc ds s).feSum = s.feSum := rfl
@[simp] theorem devSetdc_ls (ds : BitVec 16) (s : State) : (devSetdc ds s).ls = s.ls := rfl
@[simp] theorem devSetdc_good (ds : BitVec 16) (s : State) : (devSetdc ds s).good = s.good := rfl
@[simp] theorem devSetdc_bad (ds : BitVec 16) (s : State) : (devSetdc ds s).bad = s.bad := rfl
@[simp] theorem devSetdc_attempts (ds : BitVec 16) (s : State) : (devSetdc ds s).attempts = s.attempts := rfl
@[simp] theorem devSetdc_dc (ds : BitVec 16) (s : State) : (devSetdc ds s).dc = s.dc := rfl
@[simp] theorem devSetdc_bitcnt (ds : BitVec 16) (s : State) : (devSetdc ds s).bitcnt = s.bitcnt := rfl
@[simp] theorem devSetdc_txActive (ds : BitVec 16) (s : State) : (devSetdc ds s).txActive = s.txActive := rfl
@[simp] theorem devSetdc_txCode (ds : BitVec 16) (s : State) : (devSetdc ds s).txCode = s.txCode := rfl
@[simp] theorem devSetdc_txElapsed (ds : BitVec 16) (s : State) : (devSetdc ds s).txElapsed = s.txElapsed := rfl
@[simp] theorem devSetdc_pub (ds : BitVec 16) (s : State) : (devSetdc ds s).pub = s.pub := rfl
@[simp] theorem devSetdc_handoff (ds : BitVec 16) (s : State) : (devSetdc ds s).handoff = s.handoff := rfl
@[simp] theorem devSetdc_polls (ds : BitVec 16) (s : State) : (devSetdc ds s).polls = s.polls := rfl
@[simp] theorem devSetdc_oscDc (ds : BitVec 16) (s : State) : (devSetdc ds s).oscDc = { s.oscDc with ds := unpackDs ds } := rfl
@[simp] theorem devSetdc_capResp (ds : BitVec 16) (s : State) : (devSetdc ds s).capResp = s.capResp := rfl
@[simp] theorem devSetdc_out (ds : BitVec 16) (s : State) : (devSetdc ds s).out = s.out := rfl

/-! ### `SETDIV` at the device -/

@[simp] theorem devSetdiv_cfg (d : BitVec 6) (s : State) : (devSetdiv d s).cfg = s.cfg := rfl
@[simp] theorem devSetdiv_input (d : BitVec 6) (s : State) : (devSetdiv d s).input = s.input := rfl
@[simp] theorem devSetdiv_tick (d : BitVec 6) (s : State) : (devSetdiv d s).tick = s.tick := rfl
@[simp] theorem devSetdiv_rising (d : BitVec 6) (s : State) : (devSetdiv d s).rising = s.rising := rfl
@[simp] theorem devSetdiv_prevRising (d : BitVec 6) (s : State) : (devSetdiv d s).prevRising = s.prevRising := rfl
@[simp] theorem devSetdiv_nrise (d : BitVec 6) (s : State) : (devSetdiv d s).nrise = s.nrise := rfl
@[simp] theorem devSetdiv_armed (d : BitVec 6) (s : State) : (devSetdiv d s).armed = s.armed := rfl
@[simp] theorem devSetdiv_smpBt (d : BitVec 6) (s : State) : (devSetdiv d s).smpBt = s.smpBt := rfl
@[simp] theorem devSetdiv_smpPw (d : BitVec 6) (s : State) : (devSetdiv d s).smpPw = s.smpPw := rfl
@[simp] theorem devSetdiv_smpVal (d : BitVec 6) (s : State) : (devSetdiv d s).smpVal = s.smpVal := rfl
@[simp] theorem devSetdiv_smpValid (d : BitVec 6) (s : State) : (devSetdiv d s).smpValid = s.smpValid := rfl
@[simp] theorem devSetdiv_win (d : BitVec 6) (s : State) : (devSetdiv d s).win = s.win := rfl
@[simp] theorem devSetdiv_cnt (d : BitVec 6) (s : State) : (devSetdiv d s).cnt = s.cnt := rfl
@[simp] theorem devSetdiv_sum (d : BitVec 6) (s : State) : (devSetdiv d s).sum = s.sum := rfl
@[simp] theorem devSetdiv_fresh (d : BitVec 6) (s : State) : (devSetdiv d s).fresh = s.fresh := rfl
@[simp] theorem devSetdiv_feValid (d : BitVec 6) (s : State) : (devSetdiv d s).feValid = s.feValid := rfl
@[simp] theorem devSetdiv_feSum (d : BitVec 6) (s : State) : (devSetdiv d s).feSum = s.feSum := rfl
@[simp] theorem devSetdiv_ls (d : BitVec 6) (s : State) : (devSetdiv d s).ls = s.ls := rfl
@[simp] theorem devSetdiv_good (d : BitVec 6) (s : State) : (devSetdiv d s).good = s.good := rfl
@[simp] theorem devSetdiv_bad (d : BitVec 6) (s : State) : (devSetdiv d s).bad = s.bad := rfl
@[simp] theorem devSetdiv_attempts (d : BitVec 6) (s : State) : (devSetdiv d s).attempts = s.attempts := rfl
@[simp] theorem devSetdiv_dc (d : BitVec 6) (s : State) : (devSetdiv d s).dc = s.dc := rfl
@[simp] theorem devSetdiv_bitcnt (d : BitVec 6) (s : State) : (devSetdiv d s).bitcnt = s.bitcnt := rfl
@[simp] theorem devSetdiv_txActive (d : BitVec 6) (s : State) : (devSetdiv d s).txActive = s.txActive := rfl
@[simp] theorem devSetdiv_txCode (d : BitVec 6) (s : State) : (devSetdiv d s).txCode = s.txCode := rfl
@[simp] theorem devSetdiv_txElapsed (d : BitVec 6) (s : State) : (devSetdiv d s).txElapsed = s.txElapsed := rfl
@[simp] theorem devSetdiv_pub (d : BitVec 6) (s : State) : (devSetdiv d s).pub = s.pub := rfl
@[simp] theorem devSetdiv_handoff (d : BitVec 6) (s : State) : (devSetdiv d s).handoff = s.handoff := rfl
@[simp] theorem devSetdiv_polls (d : BitVec 6) (s : State) : (devSetdiv d s).polls = s.polls := rfl
@[simp] theorem devSetdiv_oscDc (d : BitVec 6) (s : State) : (devSetdiv d s).oscDc = { s.oscDc with div := d } := rfl
@[simp] theorem devSetdiv_capResp (d : BitVec 6) (s : State) : (devSetdiv d s).capResp = s.capResp := rfl
@[simp] theorem devSetdiv_out (d : BitVec 6) (s : State) : (devSetdiv d s).out = s.out := rfl

/-! ### `SETRNG` at the device -/

@[simp] theorem devSetrng_cfg (r : Range) (s : State) : (devSetrng r s).cfg = s.cfg := rfl
@[simp] theorem devSetrng_input (r : Range) (s : State) : (devSetrng r s).input = s.input := rfl
@[simp] theorem devSetrng_tick (r : Range) (s : State) : (devSetrng r s).tick = s.tick := rfl
@[simp] theorem devSetrng_rising (r : Range) (s : State) : (devSetrng r s).rising = s.rising := rfl
@[simp] theorem devSetrng_prevRising (r : Range) (s : State) : (devSetrng r s).prevRising = s.prevRising := rfl
@[simp] theorem devSetrng_nrise (r : Range) (s : State) : (devSetrng r s).nrise = s.nrise := rfl
@[simp] theorem devSetrng_armed (r : Range) (s : State) : (devSetrng r s).armed = s.armed := rfl
@[simp] theorem devSetrng_smpBt (r : Range) (s : State) : (devSetrng r s).smpBt = s.smpBt := rfl
@[simp] theorem devSetrng_smpPw (r : Range) (s : State) : (devSetrng r s).smpPw = s.smpPw := rfl
@[simp] theorem devSetrng_smpVal (r : Range) (s : State) : (devSetrng r s).smpVal = s.smpVal := rfl
@[simp] theorem devSetrng_smpValid (r : Range) (s : State) : (devSetrng r s).smpValid = s.smpValid := rfl
@[simp] theorem devSetrng_win (r : Range) (s : State) : (devSetrng r s).win = s.win := rfl
@[simp] theorem devSetrng_cnt (r : Range) (s : State) : (devSetrng r s).cnt = s.cnt := rfl
@[simp] theorem devSetrng_sum (r : Range) (s : State) : (devSetrng r s).sum = s.sum := rfl
@[simp] theorem devSetrng_fresh (r : Range) (s : State) : (devSetrng r s).fresh = s.fresh := rfl
@[simp] theorem devSetrng_feValid (r : Range) (s : State) : (devSetrng r s).feValid = s.feValid := rfl
@[simp] theorem devSetrng_feSum (r : Range) (s : State) : (devSetrng r s).feSum = s.feSum := rfl
@[simp] theorem devSetrng_ls (r : Range) (s : State) : (devSetrng r s).ls = s.ls := rfl
@[simp] theorem devSetrng_good (r : Range) (s : State) : (devSetrng r s).good = s.good := rfl
@[simp] theorem devSetrng_bad (r : Range) (s : State) : (devSetrng r s).bad = s.bad := rfl
@[simp] theorem devSetrng_attempts (r : Range) (s : State) : (devSetrng r s).attempts = s.attempts := rfl
@[simp] theorem devSetrng_dc (r : Range) (s : State) : (devSetrng r s).dc = s.dc := rfl
@[simp] theorem devSetrng_bitcnt (r : Range) (s : State) : (devSetrng r s).bitcnt = s.bitcnt := rfl
@[simp] theorem devSetrng_txActive (r : Range) (s : State) : (devSetrng r s).txActive = s.txActive := rfl
@[simp] theorem devSetrng_txCode (r : Range) (s : State) : (devSetrng r s).txCode = s.txCode := rfl
@[simp] theorem devSetrng_txElapsed (r : Range) (s : State) : (devSetrng r s).txElapsed = s.txElapsed := rfl
@[simp] theorem devSetrng_pub (r : Range) (s : State) : (devSetrng r s).pub = s.pub := rfl
@[simp] theorem devSetrng_handoff (r : Range) (s : State) : (devSetrng r s).handoff = s.handoff := rfl
@[simp] theorem devSetrng_polls (r : Range) (s : State) : (devSetrng r s).polls = s.polls := rfl
@[simp] theorem devSetrng_oscDc (r : Range) (s : State) : (devSetrng r s).oscDc = { s.oscDc with rng := r } := rfl
@[simp] theorem devSetrng_capResp (r : Range) (s : State) : (devSetrng r s).capResp = s.capResp := rfl
@[simp] theorem devSetrng_out (r : Range) (s : State) : (devSetrng r s).out = s.out := rfl

/-! ### loading `DC` -/

@[simp] theorem loadDc_cfg (s : State) : (loadDc s).cfg = s.cfg := rfl
@[simp] theorem loadDc_input (s : State) : (loadDc s).input = s.input := rfl
@[simp] theorem loadDc_tick (s : State) : (loadDc s).tick = s.tick := rfl
@[simp] theorem loadDc_rising (s : State) : (loadDc s).rising = s.rising := rfl
@[simp] theorem loadDc_prevRising (s : State) : (loadDc s).prevRising = s.prevRising := rfl
@[simp] theorem loadDc_nrise (s : State) : (loadDc s).nrise = s.nrise := rfl
@[simp] theorem loadDc_armed (s : State) : (loadDc s).armed = s.armed := rfl
@[simp] theorem loadDc_smpBt (s : State) : (loadDc s).smpBt = s.smpBt := rfl
@[simp] theorem loadDc_smpPw (s : State) : (loadDc s).smpPw = s.smpPw := rfl
@[simp] theorem loadDc_smpVal (s : State) : (loadDc s).smpVal = s.smpVal := rfl
@[simp] theorem loadDc_smpValid (s : State) : (loadDc s).smpValid = s.smpValid := rfl
@[simp] theorem loadDc_win (s : State) : (loadDc s).win = s.win := rfl
@[simp] theorem loadDc_cnt (s : State) : (loadDc s).cnt = s.cnt := rfl
@[simp] theorem loadDc_sum (s : State) : (loadDc s).sum = s.sum := rfl
@[simp] theorem loadDc_fresh (s : State) : (loadDc s).fresh = s.fresh := rfl
@[simp] theorem loadDc_feValid (s : State) : (loadDc s).feValid = s.feValid := rfl
@[simp] theorem loadDc_feSum (s : State) : (loadDc s).feSum = s.feSum := rfl
@[simp] theorem loadDc_ls (s : State) : (loadDc s).ls = s.ls := rfl
@[simp] theorem loadDc_good (s : State) : (loadDc s).good = s.good := rfl
@[simp] theorem loadDc_bad (s : State) : (loadDc s).bad = s.bad := rfl
@[simp] theorem loadDc_attempts (s : State) : (loadDc s).attempts = s.attempts := rfl
@[simp] theorem loadDc_dc (s : State) : (loadDc s).dc = s.oscDc := rfl
@[simp] theorem loadDc_bitcnt (s : State) : (loadDc s).bitcnt = s.bitcnt := rfl
@[simp] theorem loadDc_txActive (s : State) : (loadDc s).txActive = s.txActive := rfl
@[simp] theorem loadDc_txCode (s : State) : (loadDc s).txCode = s.txCode := rfl
@[simp] theorem loadDc_txElapsed (s : State) : (loadDc s).txElapsed = s.txElapsed := rfl
@[simp] theorem loadDc_pub (s : State) : (loadDc s).pub = s.pub := rfl
@[simp] theorem loadDc_handoff (s : State) : (loadDc s).handoff = s.handoff := rfl
@[simp] theorem loadDc_polls (s : State) : (loadDc s).polls = s.polls := rfl
@[simp] theorem loadDc_oscDc (s : State) : (loadDc s).oscDc = s.oscDc := rfl
@[simp] theorem loadDc_capResp (s : State) : (loadDc s).capResp = s.capResp := rfl
@[simp] theorem loadDc_out (s : State) : (loadDc s).out = s.out := rfl

/-! ### `RESET_STATE` -/

@[simp] theorem resetState_cfg (s : State) : (resetState s).cfg = s.cfg := rfl
@[simp] theorem resetState_input (s : State) : (resetState s).input = s.input := rfl
@[simp] theorem resetState_tick (s : State) : (resetState s).tick = s.cfg.tickReset := rfl
@[simp] theorem resetState_rising (s : State) : (resetState s).rising = 0 := rfl
@[simp] theorem resetState_prevRising (s : State) : (resetState s).prevRising = 0 := rfl
@[simp] theorem resetState_nrise (s : State) : (resetState s).nrise = 0 := rfl
@[simp] theorem resetState_armed (s : State) : (resetState s).armed = false := rfl
@[simp] theorem resetState_smpBt (s : State) : (resetState s).smpBt = 0 := rfl
@[simp] theorem resetState_smpPw (s : State) : (resetState s).smpPw = 0 := rfl
@[simp] theorem resetState_smpVal (s : State) : (resetState s).smpVal = false := rfl
@[simp] theorem resetState_smpValid (s : State) : (resetState s).smpValid = false := rfl
@[simp] theorem resetState_win (s : State) : (resetState s).win = [] := rfl
@[simp] theorem resetState_cnt (s : State) : (resetState s).cnt = 0 := rfl
@[simp] theorem resetState_sum (s : State) : (resetState s).sum = 0 := rfl
@[simp] theorem resetState_fresh (s : State) : (resetState s).fresh = 0 := rfl
@[simp] theorem resetState_feValid (s : State) : (resetState s).feValid = false := rfl
@[simp] theorem resetState_feSum (s : State) : (resetState s).feSum = 0 := rfl
@[simp] theorem resetState_ls (s : State) : (resetState s).ls = .unlocked := rfl
@[simp] theorem resetState_good (s : State) : (resetState s).good = 0 := rfl
@[simp] theorem resetState_bad (s : State) : (resetState s).bad = 0 := rfl
@[simp] theorem resetState_attempts (s : State) : (resetState s).attempts = 0 := rfl
@[simp] theorem resetState_dc (s : State) : (resetState s).dc = s.dc := rfl
@[simp] theorem resetState_bitcnt (s : State) : (resetState s).bitcnt = 0 := rfl
@[simp] theorem resetState_txActive (s : State) : (resetState s).txActive = false := rfl
@[simp] theorem resetState_txCode (s : State) : (resetState s).txCode = .brk := rfl
@[simp] theorem resetState_txElapsed (s : State) : (resetState s).txElapsed = 0 := rfl
@[simp] theorem resetState_pub (s : State) : (resetState s).pub = s.pub := rfl
@[simp] theorem resetState_handoff (s : State) : (resetState s).handoff = false := rfl
@[simp] theorem resetState_polls (s : State) : (resetState s).polls = s.polls := rfl
@[simp] theorem resetState_oscDc (s : State) : (resetState s).oscDc = s.cfg.driveReset := rfl
@[simp] theorem resetState_capResp (s : State) : (resetState s).capResp = s.capResp := rfl
@[simp] theorem resetState_out (s : State) : (resetState s).out = s.out := rfl

/-! ### recording the sample -/

@[simp] theorem recordSample_cfg (b : BitSample) (s : State) : (recordSample b s).cfg = s.cfg := rfl
@[simp] theorem recordSample_input (b : BitSample) (s : State) : (recordSample b s).input = s.input := rfl
@[simp] theorem recordSample_tick (b : BitSample) (s : State) : (recordSample b s).tick = s.tick := rfl
@[simp] theorem recordSample_rising (b : BitSample) (s : State) : (recordSample b s).rising = s.rising := rfl
@[simp] theorem recordSample_prevRising (b : BitSample) (s : State) : (recordSample b s).prevRising = s.prevRising := rfl
@[simp] theorem recordSample_nrise (b : BitSample) (s : State) : (recordSample b s).nrise = s.nrise := rfl
@[simp] theorem recordSample_armed (b : BitSample) (s : State) : (recordSample b s).armed = s.armed := rfl
@[simp] theorem recordSample_smpBt (b : BitSample) (s : State) : (recordSample b s).smpBt = b.bt := rfl
@[simp] theorem recordSample_smpPw (b : BitSample) (s : State) : (recordSample b s).smpPw = b.pw := rfl
@[simp] theorem recordSample_smpVal (b : BitSample) (s : State) : (recordSample b s).smpVal = b.val := rfl
@[simp] theorem recordSample_smpValid (b : BitSample) (s : State) : (recordSample b s).smpValid = true := rfl
@[simp] theorem recordSample_win (b : BitSample) (s : State) : (recordSample b s).win = s.win := rfl
@[simp] theorem recordSample_cnt (b : BitSample) (s : State) : (recordSample b s).cnt = s.cnt := rfl
@[simp] theorem recordSample_sum (b : BitSample) (s : State) : (recordSample b s).sum = s.sum := rfl
@[simp] theorem recordSample_fresh (b : BitSample) (s : State) : (recordSample b s).fresh = s.fresh := rfl
@[simp] theorem recordSample_feValid (b : BitSample) (s : State) : (recordSample b s).feValid = s.feValid := rfl
@[simp] theorem recordSample_feSum (b : BitSample) (s : State) : (recordSample b s).feSum = s.feSum := rfl
@[simp] theorem recordSample_ls (b : BitSample) (s : State) : (recordSample b s).ls = s.ls := rfl
@[simp] theorem recordSample_good (b : BitSample) (s : State) : (recordSample b s).good = s.good := rfl
@[simp] theorem recordSample_bad (b : BitSample) (s : State) : (recordSample b s).bad = s.bad := rfl
@[simp] theorem recordSample_attempts (b : BitSample) (s : State) : (recordSample b s).attempts = s.attempts := rfl
@[simp] theorem recordSample_dc (b : BitSample) (s : State) : (recordSample b s).dc = s.dc := rfl
@[simp] theorem recordSample_bitcnt (b : BitSample) (s : State) : (recordSample b s).bitcnt = s.bitcnt := rfl
@[simp] theorem recordSample_txActive (b : BitSample) (s : State) : (recordSample b s).txActive = s.txActive := rfl
@[simp] theorem recordSample_txCode (b : BitSample) (s : State) : (recordSample b s).txCode = s.txCode := rfl
@[simp] theorem recordSample_txElapsed (b : BitSample) (s : State) : (recordSample b s).txElapsed = s.txElapsed := rfl
@[simp] theorem recordSample_pub (b : BitSample) (s : State) : (recordSample b s).pub = s.pub := rfl
@[simp] theorem recordSample_handoff (b : BitSample) (s : State) : (recordSample b s).handoff = s.handoff := rfl
@[simp] theorem recordSample_polls (b : BitSample) (s : State) : (recordSample b s).polls = s.polls := rfl
@[simp] theorem recordSample_oscDc (b : BitSample) (s : State) : (recordSample b s).oscDc = s.oscDc := rfl
@[simp] theorem recordSample_capResp (b : BitSample) (s : State) : (recordSample b s).capResp = s.capResp := rfl
@[simp] theorem recordSample_out (b : BitSample) (s : State) : (recordSample b s).out = s.out := rfl

/-! ### appending an accepted bit time -/

@[simp] theorem appendSample_cfg (bt : Nat) (s : State) : (appendSample bt s).cfg = s.cfg := rfl
@[simp] theorem appendSample_input (bt : Nat) (s : State) : (appendSample bt s).input = s.input := rfl
@[simp] theorem appendSample_tick (bt : Nat) (s : State) : (appendSample bt s).tick = s.tick := rfl
@[simp] theorem appendSample_rising (bt : Nat) (s : State) : (appendSample bt s).rising = s.rising := rfl
@[simp] theorem appendSample_prevRising (bt : Nat) (s : State) : (appendSample bt s).prevRising = s.prevRising := rfl
@[simp] theorem appendSample_nrise (bt : Nat) (s : State) : (appendSample bt s).nrise = s.nrise := rfl
@[simp] theorem appendSample_armed (bt : Nat) (s : State) : (appendSample bt s).armed = s.armed := rfl
@[simp] theorem appendSample_smpBt (bt : Nat) (s : State) : (appendSample bt s).smpBt = s.smpBt := rfl
@[simp] theorem appendSample_smpPw (bt : Nat) (s : State) : (appendSample bt s).smpPw = s.smpPw := rfl
@[simp] theorem appendSample_smpVal (bt : Nat) (s : State) : (appendSample bt s).smpVal = s.smpVal := rfl
@[simp] theorem appendSample_smpValid (bt : Nat) (s : State) : (appendSample bt s).smpValid = s.smpValid := rfl
@[simp] theorem appendSample_win (bt : Nat) (s : State) : (appendSample bt s).win = s.win ++ [bt] := rfl
@[simp] theorem appendSample_cnt (bt : Nat) (s : State) : (appendSample bt s).cnt = s.cnt + 1 := rfl
@[simp] theorem appendSample_sum (bt : Nat) (s : State) : (appendSample bt s).sum = s.sum + bt := rfl
@[simp] theorem appendSample_fresh (bt : Nat) (s : State) : (appendSample bt s).fresh = s.fresh + 1 := rfl
@[simp] theorem appendSample_feValid (bt : Nat) (s : State) : (appendSample bt s).feValid = s.feValid := rfl
@[simp] theorem appendSample_feSum (bt : Nat) (s : State) : (appendSample bt s).feSum = s.feSum := rfl
@[simp] theorem appendSample_ls (bt : Nat) (s : State) : (appendSample bt s).ls = s.ls := rfl
@[simp] theorem appendSample_good (bt : Nat) (s : State) : (appendSample bt s).good = s.good := rfl
@[simp] theorem appendSample_bad (bt : Nat) (s : State) : (appendSample bt s).bad = s.bad := rfl
@[simp] theorem appendSample_attempts (bt : Nat) (s : State) : (appendSample bt s).attempts = s.attempts := rfl
@[simp] theorem appendSample_dc (bt : Nat) (s : State) : (appendSample bt s).dc = s.dc := rfl
@[simp] theorem appendSample_bitcnt (bt : Nat) (s : State) : (appendSample bt s).bitcnt = s.bitcnt := rfl
@[simp] theorem appendSample_txActive (bt : Nat) (s : State) : (appendSample bt s).txActive = s.txActive := rfl
@[simp] theorem appendSample_txCode (bt : Nat) (s : State) : (appendSample bt s).txCode = s.txCode := rfl
@[simp] theorem appendSample_txElapsed (bt : Nat) (s : State) : (appendSample bt s).txElapsed = s.txElapsed := rfl
@[simp] theorem appendSample_pub (bt : Nat) (s : State) : (appendSample bt s).pub = s.pub := rfl
@[simp] theorem appendSample_handoff (bt : Nat) (s : State) : (appendSample bt s).handoff = s.handoff := rfl
@[simp] theorem appendSample_polls (bt : Nat) (s : State) : (appendSample bt s).polls = s.polls := rfl
@[simp] theorem appendSample_oscDc (bt : Nat) (s : State) : (appendSample bt s).oscDc = s.oscDc := rfl
@[simp] theorem appendSample_capResp (bt : Nat) (s : State) : (appendSample bt s).capResp = s.capResp := rfl
@[simp] theorem appendSample_out (bt : Nat) (s : State) : (appendSample bt s).out = s.out := rfl

/-! ### a change of `LS` -/

@[simp] theorem enterLockState_cfg (l : LockState) (s : State) : (enterLockState l s).cfg = s.cfg := rfl
@[simp] theorem enterLockState_input (l : LockState) (s : State) : (enterLockState l s).input = s.input := rfl
@[simp] theorem enterLockState_tick (l : LockState) (s : State) : (enterLockState l s).tick = s.tick := rfl
@[simp] theorem enterLockState_rising (l : LockState) (s : State) : (enterLockState l s).rising = s.rising := rfl
@[simp] theorem enterLockState_prevRising (l : LockState) (s : State) : (enterLockState l s).prevRising = s.prevRising := rfl
@[simp] theorem enterLockState_nrise (l : LockState) (s : State) : (enterLockState l s).nrise = s.nrise := rfl
@[simp] theorem enterLockState_armed (l : LockState) (s : State) : (enterLockState l s).armed = s.armed := rfl
@[simp] theorem enterLockState_smpBt (l : LockState) (s : State) : (enterLockState l s).smpBt = s.smpBt := rfl
@[simp] theorem enterLockState_smpPw (l : LockState) (s : State) : (enterLockState l s).smpPw = s.smpPw := rfl
@[simp] theorem enterLockState_smpVal (l : LockState) (s : State) : (enterLockState l s).smpVal = s.smpVal := rfl
@[simp] theorem enterLockState_smpValid (l : LockState) (s : State) : (enterLockState l s).smpValid = s.smpValid := rfl
@[simp] theorem enterLockState_win (l : LockState) (s : State) : (enterLockState l s).win = s.win := rfl
@[simp] theorem enterLockState_cnt (l : LockState) (s : State) : (enterLockState l s).cnt = s.cnt := rfl
@[simp] theorem enterLockState_sum (l : LockState) (s : State) : (enterLockState l s).sum = s.sum := rfl
@[simp] theorem enterLockState_fresh (l : LockState) (s : State) : (enterLockState l s).fresh = s.fresh := rfl
@[simp] theorem enterLockState_feValid (l : LockState) (s : State) : (enterLockState l s).feValid = s.feValid := rfl
@[simp] theorem enterLockState_feSum (l : LockState) (s : State) : (enterLockState l s).feSum = s.feSum := rfl
@[simp] theorem enterLockState_ls (l : LockState) (s : State) : (enterLockState l s).ls = l := rfl
@[simp] theorem enterLockState_good (l : LockState) (s : State) : (enterLockState l s).good = 0 := rfl
@[simp] theorem enterLockState_bad (l : LockState) (s : State) : (enterLockState l s).bad = 0 := rfl
@[simp] theorem enterLockState_attempts (l : LockState) (s : State) : (enterLockState l s).attempts = 0 := rfl
@[simp] theorem enterLockState_dc (l : LockState) (s : State) : (enterLockState l s).dc = s.dc := rfl
@[simp] theorem enterLockState_bitcnt (l : LockState) (s : State) : (enterLockState l s).bitcnt = s.bitcnt := rfl
@[simp] theorem enterLockState_txActive (l : LockState) (s : State) : (enterLockState l s).txActive = s.txActive := rfl
@[simp] theorem enterLockState_txCode (l : LockState) (s : State) : (enterLockState l s).txCode = s.txCode := rfl
@[simp] theorem enterLockState_txElapsed (l : LockState) (s : State) : (enterLockState l s).txElapsed = s.txElapsed := rfl
@[simp] theorem enterLockState_pub (l : LockState) (s : State) : (enterLockState l s).pub = s.pub := rfl
@[simp] theorem enterLockState_handoff (l : LockState) (s : State) : (enterLockState l s).handoff = s.handoff := rfl
@[simp] theorem enterLockState_polls (l : LockState) (s : State) : (enterLockState l s).polls = s.polls := rfl
@[simp] theorem enterLockState_oscDc (l : LockState) (s : State) : (enterLockState l s).oscDc = s.oscDc := rfl
@[simp] theorem enterLockState_capResp (l : LockState) (s : State) : (enterLockState l s).capResp = s.capResp := rfl
@[simp] theorem enterLockState_out (l : LockState) (s : State) : (enterLockState l s).out = s.out := rfl

/-! ### starting a code -/

@[simp] theorem startCode_cfg (c : StatusCode) (s : State) : (startCode c s).cfg = s.cfg := rfl
@[simp] theorem startCode_input (c : StatusCode) (s : State) : (startCode c s).input = s.input := rfl
@[simp] theorem startCode_tick (c : StatusCode) (s : State) : (startCode c s).tick = s.tick := rfl
@[simp] theorem startCode_rising (c : StatusCode) (s : State) : (startCode c s).rising = s.rising := rfl
@[simp] theorem startCode_prevRising (c : StatusCode) (s : State) : (startCode c s).prevRising = s.prevRising := rfl
@[simp] theorem startCode_nrise (c : StatusCode) (s : State) : (startCode c s).nrise = s.nrise := rfl
@[simp] theorem startCode_armed (c : StatusCode) (s : State) : (startCode c s).armed = s.armed := rfl
@[simp] theorem startCode_smpBt (c : StatusCode) (s : State) : (startCode c s).smpBt = s.smpBt := rfl
@[simp] theorem startCode_smpPw (c : StatusCode) (s : State) : (startCode c s).smpPw = s.smpPw := rfl
@[simp] theorem startCode_smpVal (c : StatusCode) (s : State) : (startCode c s).smpVal = s.smpVal := rfl
@[simp] theorem startCode_smpValid (c : StatusCode) (s : State) : (startCode c s).smpValid = s.smpValid := rfl
@[simp] theorem startCode_win (c : StatusCode) (s : State) : (startCode c s).win = s.win := rfl
@[simp] theorem startCode_cnt (c : StatusCode) (s : State) : (startCode c s).cnt = s.cnt := rfl
@[simp] theorem startCode_sum (c : StatusCode) (s : State) : (startCode c s).sum = s.sum := rfl
@[simp] theorem startCode_fresh (c : StatusCode) (s : State) : (startCode c s).fresh = s.fresh := rfl
@[simp] theorem startCode_feValid (c : StatusCode) (s : State) : (startCode c s).feValid = s.feValid := rfl
@[simp] theorem startCode_feSum (c : StatusCode) (s : State) : (startCode c s).feSum = s.feSum := rfl
@[simp] theorem startCode_ls (c : StatusCode) (s : State) : (startCode c s).ls = s.ls := rfl
@[simp] theorem startCode_good (c : StatusCode) (s : State) : (startCode c s).good = s.good := rfl
@[simp] theorem startCode_bad (c : StatusCode) (s : State) : (startCode c s).bad = s.bad := rfl
@[simp] theorem startCode_attempts (c : StatusCode) (s : State) : (startCode c s).attempts = s.attempts := rfl
@[simp] theorem startCode_dc (c : StatusCode) (s : State) : (startCode c s).dc = s.dc := rfl
@[simp] theorem startCode_bitcnt (c : StatusCode) (s : State) : (startCode c s).bitcnt = s.bitcnt := rfl
@[simp] theorem startCode_txActive (c : StatusCode) (s : State) : (startCode c s).txActive = true := rfl
@[simp] theorem startCode_txCode (c : StatusCode) (s : State) : (startCode c s).txCode = c := rfl
@[simp] theorem startCode_txElapsed (c : StatusCode) (s : State) : (startCode c s).txElapsed = 0 := rfl
@[simp] theorem startCode_pub (c : StatusCode) (s : State) : (startCode c s).pub = s.pub := rfl
@[simp] theorem startCode_handoff (c : StatusCode) (s : State) : (startCode c s).handoff = s.handoff := rfl
@[simp] theorem startCode_polls (c : StatusCode) (s : State) : (startCode c s).polls = s.polls := rfl
@[simp] theorem startCode_oscDc (c : StatusCode) (s : State) : (startCode c s).oscDc = s.oscDc := rfl
@[simp] theorem startCode_capResp (c : StatusCode) (s : State) : (startCode c s).capResp = s.capResp := rfl
@[simp] theorem startCode_out (c : StatusCode) (s : State) : (startCode c s).out = s.out := rfl

/-! ### the tick counter's advance -/

@[simp] theorem tickAdv_cfg (n : Nat) (s : State) : (tickAdv n s).cfg = s.cfg := rfl
@[simp] theorem tickAdv_input (n : Nat) (s : State) : (tickAdv n s).input = s.input := rfl
@[simp] theorem tickAdv_tick (n : Nat) (s : State) : (tickAdv n s).tick = (s.tick + n) % s.cfg.modulus := rfl
@[simp] theorem tickAdv_rising (n : Nat) (s : State) : (tickAdv n s).rising = s.rising := rfl
@[simp] theorem tickAdv_prevRising (n : Nat) (s : State) : (tickAdv n s).prevRising = s.prevRising := rfl
@[simp] theorem tickAdv_nrise (n : Nat) (s : State) : (tickAdv n s).nrise = s.nrise := rfl
@[simp] theorem tickAdv_armed (n : Nat) (s : State) : (tickAdv n s).armed = s.armed := rfl
@[simp] theorem tickAdv_smpBt (n : Nat) (s : State) : (tickAdv n s).smpBt = s.smpBt := rfl
@[simp] theorem tickAdv_smpPw (n : Nat) (s : State) : (tickAdv n s).smpPw = s.smpPw := rfl
@[simp] theorem tickAdv_smpVal (n : Nat) (s : State) : (tickAdv n s).smpVal = s.smpVal := rfl
@[simp] theorem tickAdv_smpValid (n : Nat) (s : State) : (tickAdv n s).smpValid = s.smpValid := rfl
@[simp] theorem tickAdv_win (n : Nat) (s : State) : (tickAdv n s).win = s.win := rfl
@[simp] theorem tickAdv_cnt (n : Nat) (s : State) : (tickAdv n s).cnt = s.cnt := rfl
@[simp] theorem tickAdv_sum (n : Nat) (s : State) : (tickAdv n s).sum = s.sum := rfl
@[simp] theorem tickAdv_fresh (n : Nat) (s : State) : (tickAdv n s).fresh = s.fresh := rfl
@[simp] theorem tickAdv_feValid (n : Nat) (s : State) : (tickAdv n s).feValid = s.feValid := rfl
@[simp] theorem tickAdv_feSum (n : Nat) (s : State) : (tickAdv n s).feSum = s.feSum := rfl
@[simp] theorem tickAdv_ls (n : Nat) (s : State) : (tickAdv n s).ls = s.ls := rfl
@[simp] theorem tickAdv_good (n : Nat) (s : State) : (tickAdv n s).good = s.good := rfl
@[simp] theorem tickAdv_bad (n : Nat) (s : State) : (tickAdv n s).bad = s.bad := rfl
@[simp] theorem tickAdv_attempts (n : Nat) (s : State) : (tickAdv n s).attempts = s.attempts := rfl
@[simp] theorem tickAdv_dc (n : Nat) (s : State) : (tickAdv n s).dc = s.dc := rfl
@[simp] theorem tickAdv_bitcnt (n : Nat) (s : State) : (tickAdv n s).bitcnt = s.bitcnt := rfl
@[simp] theorem tickAdv_txActive (n : Nat) (s : State) : (tickAdv n s).txActive = s.txActive := rfl
@[simp] theorem tickAdv_txCode (n : Nat) (s : State) : (tickAdv n s).txCode = s.txCode := rfl
@[simp] theorem tickAdv_txElapsed (n : Nat) (s : State) : (tickAdv n s).txElapsed = s.txElapsed := rfl
@[simp] theorem tickAdv_pub (n : Nat) (s : State) : (tickAdv n s).pub = s.pub := rfl
@[simp] theorem tickAdv_handoff (n : Nat) (s : State) : (tickAdv n s).handoff = s.handoff := rfl
@[simp] theorem tickAdv_polls (n : Nat) (s : State) : (tickAdv n s).polls = s.polls := rfl
@[simp] theorem tickAdv_oscDc (n : Nat) (s : State) : (tickAdv n s).oscDc = s.oscDc := rfl
@[simp] theorem tickAdv_capResp (n : Nat) (s : State) : (tickAdv n s).capResp = s.capResp := rfl
@[simp] theorem tickAdv_out (n : Nat) (s : State) : (tickAdv n s).out = s.out := rfl

end Sys2Proof.Machine
end

