-- ==== Sys2Proof/Laws/Stages.lean ====
section
/-! SUPPORT. What each stage of the pass can do, said once: for each stage one lemma for every field it leaves alone
(its frame), and what it appends to `OUT`. -/

namespace Sys2Proof.Machine

/-! ### EST -/

/-- A rejected bit time only leaves its record. -/
theorem est_of_glitch {s : State} {bt : Nat} (h : Glitch s bt) : est bt s = (none, takeEvent .edgeGlitch s) := if_pos h

/-- An accepted bit time enters the window, and the window may be emitted. -/
theorem est_of_not_glitch {s : State} {bt : Nat} (h : ¬ Glitch s bt) :
    est bt s = emission (appendSample bt (slide s)) := if_neg h

/-! Making room leaves these alone. -/

@[simp] theorem slide_cfg (s : State) : (slide s).cfg = s.cfg := by unfold slide; split <;> rfl
@[simp] theorem slide_input (s : State) : (slide s).input = s.input := by unfold slide; split <;> rfl
@[simp] theorem slide_tick (s : State) : (slide s).tick = s.tick := by unfold slide; split <;> rfl
@[simp] theorem slide_rising (s : State) : (slide s).rising = s.rising := by unfold slide; split <;> rfl
@[simp] theorem slide_prevRising (s : State) : (slide s).prevRising = s.prevRising := by unfold slide; split <;> rfl
@[simp] theorem slide_nrise (s : State) : (slide s).nrise = s.nrise := by unfold slide; split <;> rfl
@[simp] theorem slide_armed (s : State) : (slide s).armed = s.armed := by unfold slide; split <;> rfl
@[simp] theorem slide_smpBt (s : State) : (slide s).smpBt = s.smpBt := by unfold slide; split <;> rfl
@[simp] theorem slide_smpPw (s : State) : (slide s).smpPw = s.smpPw := by unfold slide; split <;> rfl
@[simp] theorem slide_smpVal (s : State) : (slide s).smpVal = s.smpVal := by unfold slide; split <;> rfl
@[simp] theorem slide_smpValid (s : State) : (slide s).smpValid = s.smpValid := by unfold slide; split <;> rfl
@[simp] theorem slide_fresh (s : State) : (slide s).fresh = s.fresh := by unfold slide; split <;> rfl
@[simp] theorem slide_feValid (s : State) : (slide s).feValid = s.feValid := by unfold slide; split <;> rfl
@[simp] theorem slide_feSum (s : State) : (slide s).feSum = s.feSum := by unfold slide; split <;> rfl
@[simp] theorem slide_ls (s : State) : (slide s).ls = s.ls := by unfold slide; split <;> rfl
@[simp] theorem slide_good (s : State) : (slide s).good = s.good := by unfold slide; split <;> rfl
@[simp] theorem slide_bad (s : State) : (slide s).bad = s.bad := by unfold slide; split <;> rfl
@[simp] theorem slide_attempts (s : State) : (slide s).attempts = s.attempts := by unfold slide; split <;> rfl
@[simp] theorem slide_dc (s : State) : (slide s).dc = s.dc := by unfold slide; split <;> rfl
@[simp] theorem slide_bitcnt (s : State) : (slide s).bitcnt = s.bitcnt := by unfold slide; split <;> rfl
@[simp] theorem slide_txActive (s : State) : (slide s).txActive = s.txActive := by unfold slide; split <;> rfl
@[simp] theorem slide_txCode (s : State) : (slide s).txCode = s.txCode := by unfold slide; split <;> rfl
@[simp] theorem slide_txElapsed (s : State) : (slide s).txElapsed = s.txElapsed := by unfold slide; split <;> rfl
@[simp] theorem slide_pub (s : State) : (slide s).pub = s.pub := by unfold slide; split <;> rfl
@[simp] theorem slide_handoff (s : State) : (slide s).handoff = s.handoff := by unfold slide; split <;> rfl
@[simp] theorem slide_polls (s : State) : (slide s).polls = s.polls := by unfold slide; split <;> rfl
@[simp] theorem slide_oscDc (s : State) : (slide s).oscDc = s.oscDc := by unfold slide; split <;> rfl
@[simp] theorem slide_capResp (s : State) : (slide s).capResp = s.capResp := by unfold slide; split <;> rfl
@[simp] theorem slide_out (s : State) : (slide s).out = s.out := by unfold slide; split <;> rfl

/-! The emission leaves these alone. -/

@[simp] theorem emission_cfg (s : State) : ((emission s).2).cfg = s.cfg := by unfold emission; split <;> rfl
@[simp] theorem emission_input (s : State) : ((emission s).2).input = s.input := by unfold emission; split <;> rfl
@[simp] theorem emission_tick (s : State) : ((emission s).2).tick = s.tick := by unfold emission; split <;> rfl
@[simp] theorem emission_rising (s : State) : ((emission s).2).rising = s.rising := by unfold emission; split <;> rfl
@[simp] theorem emission_prevRising (s : State) : ((emission s).2).prevRising = s.prevRising := by unfold emission; split <;> rfl
@[simp] theorem emission_nrise (s : State) : ((emission s).2).nrise = s.nrise := by unfold emission; split <;> rfl
@[simp] theorem emission_armed (s : State) : ((emission s).2).armed = s.armed := by unfold emission; split <;> rfl
@[simp] theorem emission_smpBt (s : State) : ((emission s).2).smpBt = s.smpBt := by unfold emission; split <;> rfl
@[simp] theorem emission_smpPw (s : State) : ((emission s).2).smpPw = s.smpPw := by unfold emission; split <;> rfl
@[simp] theorem emission_smpVal (s : State) : ((emission s).2).smpVal = s.smpVal := by unfold emission; split <;> rfl
@[simp] theorem emission_smpValid (s : State) : ((emission s).2).smpValid = s.smpValid := by unfold emission; split <;> rfl
@[simp] theorem emission_win (s : State) : ((emission s).2).win = s.win := by unfold emission; split <;> rfl
@[simp] theorem emission_cnt (s : State) : ((emission s).2).cnt = s.cnt := by unfold emission; split <;> rfl
@[simp] theorem emission_sum (s : State) : ((emission s).2).sum = s.sum := by unfold emission; split <;> rfl
@[simp] theorem emission_ls (s : State) : ((emission s).2).ls = s.ls := by unfold emission; split <;> rfl
@[simp] theorem emission_good (s : State) : ((emission s).2).good = s.good := by unfold emission; split <;> rfl
@[simp] theorem emission_bad (s : State) : ((emission s).2).bad = s.bad := by unfold emission; split <;> rfl
@[simp] theorem emission_attempts (s : State) : ((emission s).2).attempts = s.attempts := by unfold emission; split <;> rfl
@[simp] theorem emission_dc (s : State) : ((emission s).2).dc = s.dc := by unfold emission; split <;> rfl
@[simp] theorem emission_bitcnt (s : State) : ((emission s).2).bitcnt = s.bitcnt := by unfold emission; split <;> rfl
@[simp] theorem emission_txActive (s : State) : ((emission s).2).txActive = s.txActive := by unfold emission; split <;> rfl
@[simp] theorem emission_txCode (s : State) : ((emission s).2).txCode = s.txCode := by unfold emission; split <;> rfl
@[simp] theorem emission_txElapsed (s : State) : ((emission s).2).txElapsed = s.txElapsed := by unfold emission; split <;> rfl
@[simp] theorem emission_pub (s : State) : ((emission s).2).pub = s.pub := by unfold emission; split <;> rfl
@[simp] theorem emission_handoff (s : State) : ((emission s).2).handoff = s.handoff := by unfold emission; split <;> rfl
@[simp] theorem emission_polls (s : State) : ((emission s).2).polls = s.polls := by unfold emission; split <;> rfl
@[simp] theorem emission_oscDc (s : State) : ((emission s).2).oscDc = s.oscDc := by unfold emission; split <;> rfl
@[simp] theorem emission_capResp (s : State) : ((emission s).2).capResp = s.capResp := by unfold emission; split <;> rfl
@[simp] theorem emission_out (s : State) : ((emission s).2).out = s.out := by unfold emission; split <;> rfl

/-! EST leaves these alone. -/

@[simp] theorem est_cfg (bt : Nat) (s : State) : ((est bt s).2).cfg = s.cfg := by unfold est; split <;> simp
@[simp] theorem est_input (bt : Nat) (s : State) : ((est bt s).2).input = s.input := by unfold est; split <;> simp
@[simp] theorem est_tick (bt : Nat) (s : State) : ((est bt s).2).tick = s.tick := by unfold est; split <;> simp
@[simp] theorem est_rising (bt : Nat) (s : State) : ((est bt s).2).rising = s.rising := by unfold est; split <;> simp
@[simp] theorem est_prevRising (bt : Nat) (s : State) : ((est bt s).2).prevRising = s.prevRising := by unfold est; split <;> simp
@[simp] theorem est_nrise (bt : Nat) (s : State) : ((est bt s).2).nrise = s.nrise := by unfold est; split <;> simp
@[simp] theorem est_armed (bt : Nat) (s : State) : ((est bt s).2).armed = s.armed := by unfold est; split <;> simp
@[simp] theorem est_smpBt (bt : Nat) (s : State) : ((est bt s).2).smpBt = s.smpBt := by unfold est; split <;> simp
@[simp] theorem est_smpPw (bt : Nat) (s : State) : ((est bt s).2).smpPw = s.smpPw := by unfold est; split <;> simp
@[simp] theorem est_smpVal (bt : Nat) (s : State) : ((est bt s).2).smpVal = s.smpVal := by unfold est; split <;> simp
@[simp] theorem est_smpValid (bt : Nat) (s : State) : ((est bt s).2).smpValid = s.smpValid := by unfold est; split <;> simp
@[simp] theorem est_ls (bt : Nat) (s : State) : ((est bt s).2).ls = s.ls := by unfold est; split <;> simp
@[simp] theorem est_good (bt : Nat) (s : State) : ((est bt s).2).good = s.good := by unfold est; split <;> simp
@[simp] theorem est_bad (bt : Nat) (s : State) : ((est bt s).2).bad = s.bad := by unfold est; split <;> simp
@[simp] theorem est_attempts (bt : Nat) (s : State) : ((est bt s).2).attempts = s.attempts := by unfold est; split <;> simp
@[simp] theorem est_dc (bt : Nat) (s : State) : ((est bt s).2).dc = s.dc := by unfold est; split <;> simp
@[simp] theorem est_bitcnt (bt : Nat) (s : State) : ((est bt s).2).bitcnt = s.bitcnt := by unfold est; split <;> simp
@[simp] theorem est_txActive (bt : Nat) (s : State) : ((est bt s).2).txActive = s.txActive := by unfold est; split <;> simp
@[simp] theorem est_txCode (bt : Nat) (s : State) : ((est bt s).2).txCode = s.txCode := by unfold est; split <;> simp
@[simp] theorem est_txElapsed (bt : Nat) (s : State) : ((est bt s).2).txElapsed = s.txElapsed := by unfold est; split <;> simp
@[simp] theorem est_pub (bt : Nat) (s : State) : ((est bt s).2).pub = s.pub := by unfold est; split <;> simp
@[simp] theorem est_handoff (bt : Nat) (s : State) : ((est bt s).2).handoff = s.handoff := by unfold est; split <;> simp
@[simp] theorem est_polls (bt : Nat) (s : State) : ((est bt s).2).polls = s.polls := by unfold est; split <;> simp
@[simp] theorem est_oscDc (bt : Nat) (s : State) : ((est bt s).2).oscDc = s.oscDc := by unfold est; split <;> simp
@[simp] theorem est_capResp (bt : Nat) (s : State) : ((est bt s).2).capResp = s.capResp := by unfold est; split <;> simp

/-- EST appends an `EdgeGlitch` for a rejected bit time and nothing otherwise. -/
theorem est_out (bt : Nat) (s : State) :
    (est bt s).2.out = s.out ++ if Glitch s bt then [.evt .edgeGlitch] else [] := by
  unfold est; split <;> simp_all

/-! ### CTRL -/

/-- The records of applying a DriveConfig, one for each part it changes (42_oscillator_controller.md R157). -/
def applyRecords (dc dc' : DriveConfig) : List OutRec :=
  (if dc'.div ≠ dc.div then [.cmd (.setdiv dc'.div)] else []) ++
  (if dc'.ds ≠ dc.ds then [.cmd (.setdc (packDs dc'.ds))] else []) ++
  (if dc'.rng ≠ dc.rng then [.cmd (.setrng dc'.rng)] else [])

/-- The records of applying a DriveConfig are the commands for its changed parts. -/
theorem mem_applyRecords {dc dc' : DriveConfig} {r : OutRec} (h : r ∈ applyRecords dc dc') :
    r = .cmd (.setdiv dc'.div) ∧ dc'.div ≠ dc.div ∨ r = .cmd (.setdc (packDs dc'.ds)) ∧ dc'.ds ≠ dc.ds ∨
      r = .cmd (.setrng dc'.rng) ∧ dc'.rng ≠ dc.rng := by
  simp only [applyRecords, List.mem_append] at h
  rcases h with (h | h) | h <;> split at h <;> simp_all

/-- Applying the DriveConfig there is leaves no record. -/
@[simp] theorem applyRecords_self (dc : DriveConfig) : applyRecords dc dc = [] := by simp [applyRecords]

/-! A command at the device leaves these alone. -/

@[simp] theorem devCommand_cfg (c : Command) (s : State) : (devCommand c s).cfg = s.cfg := by cases c <;> rfl
@[simp] theorem devCommand_input (c : Command) (s : State) : (devCommand c s).input = s.input := by cases c <;> rfl
@[simp] theorem devCommand_tick (c : Command) (s : State) : (devCommand c s).tick = s.tick := by cases c <;> rfl
@[simp] theorem devCommand_rising (c : Command) (s : State) : (devCommand c s).rising = s.rising := by cases c <;> rfl
@[simp] theorem devCommand_prevRising (c : Command) (s : State) : (devCommand c s).prevRising = s.prevRising := by cases c <;> rfl
@[simp] theorem devCommand_nrise (c : Command) (s : State) : (devCommand c s).nrise = s.nrise := by cases c <;> rfl
@[simp] theorem devCommand_armed (c : Command) (s : State) : (devCommand c s).armed = s.armed := by cases c <;> rfl
@[simp] theorem devCommand_smpBt (c : Command) (s : State) : (devCommand c s).smpBt = s.smpBt := by cases c <;> rfl
@[simp] theorem devCommand_smpPw (c : Command) (s : State) : (devCommand c s).smpPw = s.smpPw := by cases c <;> rfl
@[simp] theorem devCommand_smpVal (c : Command) (s : State) : (devCommand c s).smpVal = s.smpVal := by cases c <;> rfl
@[simp] theorem devCommand_smpValid (c : Command) (s : State) : (devCommand c s).smpValid = s.smpValid := by cases c <;> rfl
@[simp] theorem devCommand_win (c : Command) (s : State) : (devCommand c s).win = s.win := by cases c <;> rfl
@[simp] theorem devCommand_cnt (c : Command) (s : State) : (devCommand c s).cnt = s.cnt := by cases c <;> rfl
@[simp] theorem devCommand_sum (c : Command) (s : State) : (devCommand c s).sum = s.sum := by cases c <;> rfl
@[simp] theorem devCommand_fresh (c : Command) (s : State) : (devCommand c s).fresh = s.fresh := by cases c <;> rfl
@[simp] theorem devCommand_feValid (c : Command) (s : State) : (devCommand c s).feValid = s.feValid := by cases c <;> rfl
@[simp] theorem devCommand_feSum (c : Command) (s : State) : (devCommand c s).feSum = s.feSum := by cases c <;> rfl
@[simp] theorem devCommand_ls (c : Command) (s : State) : (devCommand c s).ls = s.ls := by cases c <;> rfl
@[simp] theorem devCommand_good (c : Command) (s : State) : (devCommand c s).good = s.good := by cases c <;> rfl
@[simp] theorem devCommand_bad (c : Command) (s : State) : (devCommand c s).bad = s.bad := by cases c <;> rfl
@[simp] theorem devCommand_attempts (c : Command) (s : State) : (devCommand c s).attempts = s.attempts := by cases c <;> rfl
@[simp] theorem devCommand_dc (c : Command) (s : State) : (devCommand c s).dc = s.dc := by cases c <;> rfl
@[simp] theorem devCommand_bitcnt (c : Command) (s : State) : (devCommand c s).bitcnt = s.bitcnt := by cases c <;> rfl
@[simp] theorem devCommand_txActive (c : Command) (s : State) : (devCommand c s).txActive = s.txActive := by cases c <;> rfl
@[simp] theorem devCommand_txCode (c : Command) (s : State) : (devCommand c s).txCode = s.txCode := by cases c <;> rfl
@[simp] theorem devCommand_txElapsed (c : Command) (s : State) : (devCommand c s).txElapsed = s.txElapsed := by cases c <;> rfl
@[simp] theorem devCommand_pub (c : Command) (s : State) : (devCommand c s).pub = s.pub := by cases c <;> rfl
@[simp] theorem devCommand_handoff (c : Command) (s : State) : (devCommand c s).handoff = s.handoff := by cases c <;> rfl
@[simp] theorem devCommand_polls (c : Command) (s : State) : (devCommand c s).polls = s.polls := by cases c <;> rfl
@[simp] theorem devCommand_out (c : Command) (s : State) : (devCommand c s).out = s.out := by cases c <;> rfl

/-! Issuing a command leaves these alone. -/

@[simp] theorem issueCommand_cfg (c : Command) (s : State) : (issueCommand c s).cfg = s.cfg := by simp [issueCommand]
@[simp] theorem issueCommand_input (c : Command) (s : State) : (issueCommand c s).input = s.input := by simp [issueCommand]
@[simp] theorem issueCommand_tick (c : Command) (s : State) : (issueCommand c s).tick = s.tick := by simp [issueCommand]
@[simp] theorem issueCommand_rising (c : Command) (s : State) : (issueCommand c s).rising = s.rising := by simp [issueCommand]
@[simp] theorem issueCommand_prevRising (c : Command) (s : State) : (issueCommand c s).prevRising = s.prevRising := by simp [issueCommand]
@[simp] theorem issueCommand_nrise (c : Command) (s : State) : (issueCommand c s).nrise = s.nrise := by simp [issueCommand]
@[simp] theorem issueCommand_armed (c : Command) (s : State) : (issueCommand c s).armed = s.armed := by simp [issueCommand]
@[simp] theorem issueCommand_smpBt (c : Command) (s : State) : (issueCommand c s).smpBt = s.smpBt := by simp [issueCommand]
@[simp] theorem issueCommand_smpPw (c : Command) (s : State) : (issueCommand c s).smpPw = s.smpPw := by simp [issueCommand]
@[simp] theorem issueCommand_smpVal (c : Command) (s : State) : (issueCommand c s).smpVal = s.smpVal := by simp [issueCommand]
@[simp] theorem issueCommand_smpValid (c : Command) (s : State) : (issueCommand c s).smpValid = s.smpValid := by simp [issueCommand]
@[simp] theorem issueCommand_win (c : Command) (s : State) : (issueCommand c s).win = s.win := by simp [issueCommand]
@[simp] theorem issueCommand_cnt (c : Command) (s : State) : (issueCommand c s).cnt = s.cnt := by simp [issueCommand]
@[simp] theorem issueCommand_sum (c : Command) (s : State) : (issueCommand c s).sum = s.sum := by simp [issueCommand]
@[simp] theorem issueCommand_fresh (c : Command) (s : State) : (issueCommand c s).fresh = s.fresh := by simp [issueCommand]
@[simp] theorem issueCommand_feValid (c : Command) (s : State) : (issueCommand c s).feValid = s.feValid := by simp [issueCommand]
@[simp] theorem issueCommand_feSum (c : Command) (s : State) : (issueCommand c s).feSum = s.feSum := by simp [issueCommand]
@[simp] theorem issueCommand_ls (c : Command) (s : State) : (issueCommand c s).ls = s.ls := by simp [issueCommand]
@[simp] theorem issueCommand_good (c : Command) (s : State) : (issueCommand c s).good = s.good := by simp [issueCommand]
@[simp] theorem issueCommand_bad (c : Command) (s : State) : (issueCommand c s).bad = s.bad := by simp [issueCommand]
@[simp] theorem issueCommand_attempts (c : Command) (s : State) : (issueCommand c s).attempts = s.attempts := by simp [issueCommand]
@[simp] theorem issueCommand_dc (c : Command) (s : State) : (issueCommand c s).dc = s.dc := by simp [issueCommand]
@[simp] theorem issueCommand_bitcnt (c : Command) (s : State) : (issueCommand c s).bitcnt = s.bitcnt := by simp [issueCommand]
@[simp] theorem issueCommand_txActive (c : Command) (s : State) : (issueCommand c s).txActive = s.txActive := by simp [issueCommand]
@[simp] theorem issueCommand_txCode (c : Command) (s : State) : (issueCommand c s).txCode = s.txCode := by simp [issueCommand]
@[simp] theorem issueCommand_txElapsed (c : Command) (s : State) : (issueCommand c s).txElapsed = s.txElapsed := by simp [issueCommand]
@[simp] theorem issueCommand_pub (c : Command) (s : State) : (issueCommand c s).pub = s.pub := by simp [issueCommand]
@[simp] theorem issueCommand_handoff (c : Command) (s : State) : (issueCommand c s).handoff = s.handoff := by simp [issueCommand]
@[simp] theorem issueCommand_polls (c : Command) (s : State) : (issueCommand c s).polls = s.polls := by simp [issueCommand]

@[simp] theorem issueCommand_out (c : Command) (s : State) : (issueCommand c s).out = s.out ++ [.cmd c] := by
  simp [issueCommand]

/-! Issuing a command for a changed part leaves these alone. -/

@[simp] theorem issueIf_cfg (b : Bool) (c : Command) (s : State) : (issueIf b c s).cfg = s.cfg := by unfold issueIf; split <;> simp
@[simp] theorem issueIf_input (b : Bool) (c : Command) (s : State) : (issueIf b c s).input = s.input := by unfold issueIf; split <;> simp
@[simp] theorem issueIf_tick (b : Bool) (c : Command) (s : State) : (issueIf b c s).tick = s.tick := by unfold issueIf; split <;> simp
@[simp] theorem issueIf_rising (b : Bool) (c : Command) (s : State) : (issueIf b c s).rising = s.rising := by unfold issueIf; split <;> simp
@[simp] theorem issueIf_prevRising (b : Bool) (c : Command) (s : State) : (issueIf b c s).prevRising = s.prevRising := by unfold issueIf; split <;> simp
@[simp] theorem issueIf_nrise (b : Bool) (c : Command) (s : State) : (issueIf b c s).nrise = s.nrise := by unfold issueIf; split <;> simp
@[simp] theorem issueIf_armed (b : Bool) (c : Command) (s : State) : (issueIf b c s).armed = s.armed := by unfold issueIf; split <;> simp
@[simp] theorem issueIf_smpBt (b : Bool) (c : Command) (s : State) : (issueIf b c s).smpBt = s.smpBt := by unfold issueIf; split <;> simp
@[simp] theorem issueIf_smpPw (b : Bool) (c : Command) (s : State) : (issueIf b c s).smpPw = s.smpPw := by unfold issueIf; split <;> simp
@[simp] theorem issueIf_smpVal (b : Bool) (c : Command) (s : State) : (issueIf b c s).smpVal = s.smpVal := by unfold issueIf; split <;> simp
@[simp] theorem issueIf_smpValid (b : Bool) (c : Command) (s : State) : (issueIf b c s).smpValid = s.smpValid := by unfold issueIf; split <;> simp
@[simp] theorem issueIf_win (b : Bool) (c : Command) (s : State) : (issueIf b c s).win = s.win := by unfold issueIf; split <;> simp
@[simp] theorem issueIf_cnt (b : Bool) (c : Command) (s : State) : (issueIf b c s).cnt = s.cnt := by unfold issueIf; split <;> simp
@[simp] theorem issueIf_sum (b : Bool) (c : Command) (s : State) : (issueIf b c s).sum = s.sum := by unfold issueIf; split <;> simp
@[simp] theorem issueIf_fresh (b : Bool) (c : Command) (s : State) : (issueIf b c s).fresh = s.fresh := by unfold issueIf; split <;> simp
@[simp] theorem issueIf_feValid (b : Bool) (c : Command) (s : State) : (issueIf b c s).feValid = s.feValid := by unfold issueIf; split <;> simp
@[simp] theorem issueIf_feSum (b : Bool) (c : Command) (s : State) : (issueIf b c s).feSum = s.feSum := by unfold issueIf; split <;> simp
@[simp] theorem issueIf_ls (b : Bool) (c : Command) (s : State) : (issueIf b c s).ls = s.ls := by unfold issueIf; split <;> simp
@[simp] theorem issueIf_good (b : Bool) (c : Command) (s : State) : (issueIf b c s).good = s.good := by unfold issueIf; split <;> simp
@[simp] theorem issueIf_bad (b : Bool) (c : Command) (s : State) : (issueIf b c s).bad = s.bad := by unfold issueIf; split <;> simp
@[simp] theorem issueIf_attempts (b : Bool) (c : Command) (s : State) : (issueIf b c s).attempts = s.attempts := by unfold issueIf; split <;> simp
@[simp] theorem issueIf_dc (b : Bool) (c : Command) (s : State) : (issueIf b c s).dc = s.dc := by unfold issueIf; split <;> simp
@[simp] theorem issueIf_bitcnt (b : Bool) (c : Command) (s : State) : (issueIf b c s).bitcnt = s.bitcnt := by unfold issueIf; split <;> simp
@[simp] theorem issueIf_txActive (b : Bool) (c : Command) (s : State) : (issueIf b c s).txActive = s.txActive := by unfold issueIf; split <;> simp
@[simp] theorem issueIf_txCode (b : Bool) (c : Command) (s : State) : (issueIf b c s).txCode = s.txCode := by unfold issueIf; split <;> simp
@[simp] theorem issueIf_txElapsed (b : Bool) (c : Command) (s : State) : (issueIf b c s).txElapsed = s.txElapsed := by unfold issueIf; split <;> simp
@[simp] theorem issueIf_pub (b : Bool) (c : Command) (s : State) : (issueIf b c s).pub = s.pub := by unfold issueIf; split <;> simp
@[simp] theorem issueIf_handoff (b : Bool) (c : Command) (s : State) : (issueIf b c s).handoff = s.handoff := by unfold issueIf; split <;> simp
@[simp] theorem issueIf_polls (b : Bool) (c : Command) (s : State) : (issueIf b c s).polls = s.polls := by unfold issueIf; split <;> simp

@[simp] theorem issueIf_out (b : Bool) (c : Command) (s : State) :
    (issueIf b c s).out = s.out ++ if b = true then [.cmd c] else [] := by
  unfold issueIf; split <;> simp

/-- Only `GETDC` writes the port's response. -/
theorem issueIf_capResp (b : Bool) {c : Command} (hc : c ≠ .getdc) (s : State) :
    (issueIf b c s).capResp = s.capResp := by
  unfold issueIf; split
  · cases c <;> first | exact absurd rfl hc | rfl
  · rfl

/-! Taking a DriveConfig over leaves these alone. -/

@[simp] theorem applyDc_cfg (d : DriveConfig) (s : State) : (applyDc d s).cfg = s.cfg := by unfold applyDc; split <;> rfl
@[simp] theorem applyDc_input (d : DriveConfig) (s : State) : (applyDc d s).input = s.input := by unfold applyDc; split <;> rfl
@[simp] theorem applyDc_tick (d : DriveConfig) (s : State) : (applyDc d s).tick = s.tick := by unfold applyDc; split <;> rfl
@[simp] theorem applyDc_rising (d : DriveConfig) (s : State) : (applyDc d s).rising = s.rising := by unfold applyDc; split <;> rfl
@[simp] theorem applyDc_prevRising (d : DriveConfig) (s : State) : (applyDc d s).prevRising = s.prevRising := by unfold applyDc; split <;> rfl
@[simp] theorem applyDc_nrise (d : DriveConfig) (s : State) : (applyDc d s).nrise = s.nrise := by unfold applyDc; split <;> rfl
@[simp] theorem applyDc_armed (d : DriveConfig) (s : State) : (applyDc d s).armed = s.armed := by unfold applyDc; split <;> rfl
@[simp] theorem applyDc_smpBt (d : DriveConfig) (s : State) : (applyDc d s).smpBt = s.smpBt := by unfold applyDc; split <;> rfl
@[simp] theorem applyDc_smpPw (d : DriveConfig) (s : State) : (applyDc d s).smpPw = s.smpPw := by unfold applyDc; split <;> rfl
@[simp] theorem applyDc_smpVal (d : DriveConfig) (s : State) : (applyDc d s).smpVal = s.smpVal := by unfold applyDc; split <;> rfl
@[simp] theorem applyDc_smpValid (d : DriveConfig) (s : State) : (applyDc d s).smpValid = s.smpValid := by unfold applyDc; split <;> rfl
@[simp] theorem applyDc_feValid (d : DriveConfig) (s : State) : (applyDc d s).feValid = s.feValid := by unfold applyDc; split <;> rfl
@[simp] theorem applyDc_feSum (d : DriveConfig) (s : State) : (applyDc d s).feSum = s.feSum := by unfold applyDc; split <;> rfl
@[simp] theorem applyDc_ls (d : DriveConfig) (s : State) : (applyDc d s).ls = s.ls := by unfold applyDc; split <;> rfl
@[simp] theorem applyDc_good (d : DriveConfig) (s : State) : (applyDc d s).good = s.good := by unfold applyDc; split <;> rfl
@[simp] theorem applyDc_bad (d : DriveConfig) (s : State) : (applyDc d s).bad = s.bad := by unfold applyDc; split <;> rfl
@[simp] theorem applyDc_attempts (d : DriveConfig) (s : State) : (applyDc d s).attempts = s.attempts := by unfold applyDc; split <;> rfl
@[simp] theorem applyDc_bitcnt (d : DriveConfig) (s : State) : (applyDc d s).bitcnt = s.bitcnt := by unfold applyDc; split <;> rfl
@[simp] theorem applyDc_txActive (d : DriveConfig) (s : State) : (applyDc d s).txActive = s.txActive := by unfold applyDc; split <;> rfl
@[simp] theorem applyDc_txCode (d : DriveConfig) (s : State) : (applyDc d s).txCode = s.txCode := by unfold applyDc; split <;> rfl
@[simp] theorem applyDc_txElapsed (d : DriveConfig) (s : State) : (applyDc d s).txElapsed = s.txElapsed := by unfold applyDc; split <;> rfl
@[simp] theorem applyDc_pub (d : DriveConfig) (s : State) : (applyDc d s).pub = s.pub := by unfold applyDc; split <;> rfl
@[simp] theorem applyDc_handoff (d : DriveConfig) (s : State) : (applyDc d s).handoff = s.handoff := by unfold applyDc; split <;> rfl
@[simp] theorem applyDc_polls (d : DriveConfig) (s : State) : (applyDc d s).polls = s.polls := by unfold applyDc; split <;> rfl
@[simp] theorem applyDc_oscDc (d : DriveConfig) (s : State) : (applyDc d s).oscDc = s.oscDc := by unfold applyDc; split <;> rfl
@[simp] theorem applyDc_capResp (d : DriveConfig) (s : State) : (applyDc d s).capResp = s.capResp := by unfold applyDc; split <;> rfl
@[simp] theorem applyDc_out (d : DriveConfig) (s : State) : (applyDc d s).out = s.out := by unfold applyDc; split <;> rfl

/-! APPLY leaves these alone. -/

@[simp] theorem applyStep_cfg (d : DriveConfig) (s : State) : (applyStep d s).cfg = s.cfg := by simp [applyStep]
@[simp] theorem applyStep_input (d : DriveConfig) (s : State) : (applyStep d s).input = s.input := by simp [applyStep]
@[simp] theorem applyStep_tick (d : DriveConfig) (s : State) : (applyStep d s).tick = s.tick := by simp [applyStep]
@[simp] theorem applyStep_rising (d : DriveConfig) (s : State) : (applyStep d s).rising = s.rising := by simp [applyStep]
@[simp] theorem applyStep_prevRising (d : DriveConfig) (s : State) : (applyStep d s).prevRising = s.prevRising := by simp [applyStep]
@[simp] theorem applyStep_nrise (d : DriveConfig) (s : State) : (applyStep d s).nrise = s.nrise := by simp [applyStep]
@[simp] theorem applyStep_armed (d : DriveConfig) (s : State) : (applyStep d s).armed = s.armed := by simp [applyStep]
@[simp] theorem applyStep_smpBt (d : DriveConfig) (s : State) : (applyStep d s).smpBt = s.smpBt := by simp [applyStep]
@[simp] theorem applyStep_smpPw (d : DriveConfig) (s : State) : (applyStep d s).smpPw = s.smpPw := by simp [applyStep]
@[simp] theorem applyStep_smpVal (d : DriveConfig) (s : State) : (applyStep d s).smpVal = s.smpVal := by simp [applyStep]
@[simp] theorem applyStep_smpValid (d : DriveConfig) (s : State) : (applyStep d s).smpValid = s.smpValid := by simp [applyStep]
@[simp] theorem applyStep_feValid (d : DriveConfig) (s : State) : (applyStep d s).feValid = s.feValid := by simp [applyStep]
@[simp] theorem applyStep_feSum (d : DriveConfig) (s : State) : (applyStep d s).feSum = s.feSum := by simp [applyStep]
@[simp] theorem applyStep_ls (d : DriveConfig) (s : State) : (applyStep d s).ls = s.ls := by simp [applyStep]
@[simp] theorem applyStep_good (d : DriveConfig) (s : State) : (applyStep d s).good = s.good := by simp [applyStep]
@[simp] theorem applyStep_bad (d : DriveConfig) (s : State) : (applyStep d s).bad = s.bad := by simp [applyStep]
@[simp] theorem applyStep_attempts (d : DriveConfig) (s : State) : (applyStep d s).attempts = s.attempts := by simp [applyStep]
@[simp] theorem applyStep_bitcnt (d : DriveConfig) (s : State) : (applyStep d s).bitcnt = s.bitcnt := by simp [applyStep]
@[simp] theorem applyStep_txActive (d : DriveConfig) (s : State) : (applyStep d s).txActive = s.txActive := by simp [applyStep]
@[simp] theorem applyStep_txCode (d : DriveConfig) (s : State) : (applyStep d s).txCode = s.txCode := by simp [applyStep]
@[simp] theorem applyStep_txElapsed (d : DriveConfig) (s : State) : (applyStep d s).txElapsed = s.txElapsed := by simp [applyStep]
@[simp] theorem applyStep_pub (d : DriveConfig) (s : State) : (applyStep d s).pub = s.pub := by simp [applyStep]
@[simp] theorem applyStep_handoff (d : DriveConfig) (s : State) : (applyStep d s).handoff = s.handoff := by simp [applyStep]
@[simp] theorem applyStep_polls (d : DriveConfig) (s : State) : (applyStep d s).polls = s.polls := by simp [applyStep]
@[simp] theorem applyStep_capResp (d : DriveConfig) (s : State) : (applyStep d s).capResp = s.capResp := by simp [applyStep, issueIf_capResp]

/-- After APPLY the controller's DriveConfig is the one applied. -/
@[simp] theorem applyStep_dc (d : DriveConfig) (s : State) : (applyStep d s).dc = d := by
  unfold applyStep applyDc; split
  · rfl
  · simp_all

/-- APPLY appends the commands for the changed parts. -/
@[simp] theorem applyStep_out (d : DriveConfig) (s : State) : (applyStep d s).out = s.out ++ applyRecords s.dc d := by
  simp [applyStep, applyRecords]

/-! `ctrlCorrect` leaves these alone. -/

@[simp] theorem ctrlCorrect_cfg (S : Nat) (s : State) : (ctrlCorrect S s).cfg = s.cfg := by unfold ctrlCorrect; split_ifs <;> simp [breakEvent]
@[simp] theorem ctrlCorrect_input (S : Nat) (s : State) : (ctrlCorrect S s).input = s.input := by unfold ctrlCorrect; split_ifs <;> simp [breakEvent]
@[simp] theorem ctrlCorrect_tick (S : Nat) (s : State) : (ctrlCorrect S s).tick = s.tick := by unfold ctrlCorrect; split_ifs <;> simp [breakEvent]
@[simp] theorem ctrlCorrect_rising (S : Nat) (s : State) : (ctrlCorrect S s).rising = s.rising := by unfold ctrlCorrect; split_ifs <;> simp [breakEvent]
@[simp] theorem ctrlCorrect_prevRising (S : Nat) (s : State) : (ctrlCorrect S s).prevRising = s.prevRising := by unfold ctrlCorrect; split_ifs <;> simp [breakEvent]
@[simp] theorem ctrlCorrect_nrise (S : Nat) (s : State) : (ctrlCorrect S s).nrise = s.nrise := by unfold ctrlCorrect; split_ifs <;> simp [breakEvent]
@[simp] theorem ctrlCorrect_armed (S : Nat) (s : State) : (ctrlCorrect S s).armed = s.armed := by unfold ctrlCorrect; split_ifs <;> simp [breakEvent]
@[simp] theorem ctrlCorrect_smpBt (S : Nat) (s : State) : (ctrlCorrect S s).smpBt = s.smpBt := by unfold ctrlCorrect; split_ifs <;> simp [breakEvent]
@[simp] theorem ctrlCorrect_smpPw (S : Nat) (s : State) : (ctrlCorrect S s).smpPw = s.smpPw := by unfold ctrlCorrect; split_ifs <;> simp [breakEvent]
@[simp] theorem ctrlCorrect_smpVal (S : Nat) (s : State) : (ctrlCorrect S s).smpVal = s.smpVal := by unfold ctrlCorrect; split_ifs <;> simp [breakEvent]
@[simp] theorem ctrlCorrect_smpValid (S : Nat) (s : State) : (ctrlCorrect S s).smpValid = s.smpValid := by unfold ctrlCorrect; split_ifs <;> simp [breakEvent]
@[simp] theorem ctrlCorrect_feValid (S : Nat) (s : State) : (ctrlCorrect S s).feValid = s.feValid := by unfold ctrlCorrect; split_ifs <;> simp [breakEvent]
@[simp] theorem ctrlCorrect_feSum (S : Nat) (s : State) : (ctrlCorrect S s).feSum = s.feSum := by unfold ctrlCorrect; split_ifs <;> simp [breakEvent]
@[simp] theorem ctrlCorrect_bitcnt (S : Nat) (s : State) : (ctrlCorrect S s).bitcnt = s.bitcnt := by unfold ctrlCorrect; split_ifs <;> simp [breakEvent]
@[simp] theorem ctrlCorrect_txActive (S : Nat) (s : State) : (ctrlCorrect S s).txActive = s.txActive := by unfold ctrlCorrect; split_ifs <;> simp [breakEvent]
@[simp] theorem ctrlCorrect_txCode (S : Nat) (s : State) : (ctrlCorrect S s).txCode = s.txCode := by unfold ctrlCorrect; split_ifs <;> simp [breakEvent]
@[simp] theorem ctrlCorrect_txElapsed (S : Nat) (s : State) : (ctrlCorrect S s).txElapsed = s.txElapsed := by unfold ctrlCorrect; split_ifs <;> simp [breakEvent]
@[simp] theorem ctrlCorrect_pub (S : Nat) (s : State) : (ctrlCorrect S s).pub = s.pub := by unfold ctrlCorrect; split_ifs <;> simp [breakEvent]
@[simp] theorem ctrlCorrect_handoff (S : Nat) (s : State) : (ctrlCorrect S s).handoff = s.handoff := by unfold ctrlCorrect; split_ifs <;> simp [breakEvent]
@[simp] theorem ctrlCorrect_polls (S : Nat) (s : State) : (ctrlCorrect S s).polls = s.polls := by unfold ctrlCorrect; split_ifs <;> simp [breakEvent]
@[simp] theorem ctrlCorrect_capResp (S : Nat) (s : State) : (ctrlCorrect S s).capResp = s.capResp := by unfold ctrlCorrect; split_ifs <;> simp [breakEvent]

/-! `ctrlConverging` leaves these alone. -/

@[simp] theorem ctrlConverging_cfg (S : Nat) (s : State) : (ctrlConverging S s).cfg = s.cfg := by unfold ctrlConverging; split_ifs <;> simp
@[simp] theorem ctrlConverging_input (S : Nat) (s : State) : (ctrlConverging S s).input = s.input := by unfold ctrlConverging; split_ifs <;> simp
@[simp] theorem ctrlConverging_tick (S : Nat) (s : State) : (ctrlConverging S s).tick = s.tick := by unfold ctrlConverging; split_ifs <;> simp
@[simp] theorem ctrlConverging_rising (S : Nat) (s : State) : (ctrlConverging S s).rising = s.rising := by unfold ctrlConverging; split_ifs <;> simp
@[simp] theorem ctrlConverging_prevRising (S : Nat) (s : State) : (ctrlConverging S s).prevRising = s.prevRising := by unfold ctrlConverging; split_ifs <;> simp
@[simp] theorem ctrlConverging_nrise (S : Nat) (s : State) : (ctrlConverging S s).nrise = s.nrise := by unfold ctrlConverging; split_ifs <;> simp
@[simp] theorem ctrlConverging_armed (S : Nat) (s : State) : (ctrlConverging S s).armed = s.armed := by unfold ctrlConverging; split_ifs <;> simp
@[simp] theorem ctrlConverging_smpBt (S : Nat) (s : State) : (ctrlConverging S s).smpBt = s.smpBt := by unfold ctrlConverging; split_ifs <;> simp
@[simp] theorem ctrlConverging_smpPw (S : Nat) (s : State) : (ctrlConverging S s).smpPw = s.smpPw := by unfold ctrlConverging; split_ifs <;> simp
@[simp] theorem ctrlConverging_smpVal (S : Nat) (s : State) : (ctrlConverging S s).smpVal = s.smpVal := by unfold ctrlConverging; split_ifs <;> simp
@[simp] theorem ctrlConverging_smpValid (S : Nat) (s : State) : (ctrlConverging S s).smpValid = s.smpValid := by unfold ctrlConverging; split_ifs <;> simp
@[simp] theorem ctrlConverging_feValid (S : Nat) (s : State) : (ctrlConverging S s).feValid = s.feValid := by unfold ctrlConverging; split_ifs <;> simp
@[simp] theorem ctrlConverging_feSum (S : Nat) (s : State) : (ctrlConverging S s).feSum = s.feSum := by unfold ctrlConverging; split_ifs <;> simp
@[simp] theorem ctrlConverging_bitcnt (S : Nat) (s : State) : (ctrlConverging S s).bitcnt = s.bitcnt := by unfold ctrlConverging; split_ifs <;> simp
@[simp] theorem ctrlConverging_txActive (S : Nat) (s : State) : (ctrlConverging S s).txActive = s.txActive := by unfold ctrlConverging; split_ifs <;> simp
@[simp] theorem ctrlConverging_txCode (S : Nat) (s : State) : (ctrlConverging S s).txCode = s.txCode := by unfold ctrlConverging; split_ifs <;> simp
@[simp] theorem ctrlConverging_txElapsed (S : Nat) (s : State) : (ctrlConverging S s).txElapsed = s.txElapsed := by unfold ctrlConverging; split_ifs <;> simp
@[simp] theorem ctrlConverging_pub (S : Nat) (s : State) : (ctrlConverging S s).pub = s.pub := by unfold ctrlConverging; split_ifs <;> simp
@[simp] theorem ctrlConverging_handoff (S : Nat) (s : State) : (ctrlConverging S s).handoff = s.handoff := by unfold ctrlConverging; split_ifs <;> simp
@[simp] theorem ctrlConverging_polls (S : Nat) (s : State) : (ctrlConverging S s).polls = s.polls := by unfold ctrlConverging; split_ifs <;> simp
@[simp] theorem ctrlConverging_capResp (S : Nat) (s : State) : (ctrlConverging S s).capResp = s.capResp := by unfold ctrlConverging; split_ifs <;> simp

/-! `ctrlLocked` leaves these alone. -/

@[simp] theorem ctrlLocked_cfg (S : Nat) (s : State) : (ctrlLocked S s).cfg = s.cfg := by unfold ctrlLocked; split_ifs <;> simp
@[simp] theorem ctrlLocked_input (S : Nat) (s : State) : (ctrlLocked S s).input = s.input := by unfold ctrlLocked; split_ifs <;> simp
@[simp] theorem ctrlLocked_tick (S : Nat) (s : State) : (ctrlLocked S s).tick = s.tick := by unfold ctrlLocked; split_ifs <;> simp
@[simp] theorem ctrlLocked_rising (S : Nat) (s : State) : (ctrlLocked S s).rising = s.rising := by unfold ctrlLocked; split_ifs <;> simp
@[simp] theorem ctrlLocked_prevRising (S : Nat) (s : State) : (ctrlLocked S s).prevRising = s.prevRising := by unfold ctrlLocked; split_ifs <;> simp
@[simp] theorem ctrlLocked_nrise (S : Nat) (s : State) : (ctrlLocked S s).nrise = s.nrise := by unfold ctrlLocked; split_ifs <;> simp
@[simp] theorem ctrlLocked_armed (S : Nat) (s : State) : (ctrlLocked S s).armed = s.armed := by unfold ctrlLocked; split_ifs <;> simp
@[simp] theorem ctrlLocked_smpBt (S : Nat) (s : State) : (ctrlLocked S s).smpBt = s.smpBt := by unfold ctrlLocked; split_ifs <;> simp
@[simp] theorem ctrlLocked_smpPw (S : Nat) (s : State) : (ctrlLocked S s).smpPw = s.smpPw := by unfold ctrlLocked; split_ifs <;> simp
@[simp] theorem ctrlLocked_smpVal (S : Nat) (s : State) : (ctrlLocked S s).smpVal = s.smpVal := by unfold ctrlLocked; split_ifs <;> simp
@[simp] theorem ctrlLocked_smpValid (S : Nat) (s : State) : (ctrlLocked S s).smpValid = s.smpValid := by unfold ctrlLocked; split_ifs <;> simp
@[simp] theorem ctrlLocked_win (S : Nat) (s : State) : (ctrlLocked S s).win = s.win := by unfold ctrlLocked; split_ifs <;> simp
@[simp] theorem ctrlLocked_cnt (S : Nat) (s : State) : (ctrlLocked S s).cnt = s.cnt := by unfold ctrlLocked; split_ifs <;> simp
@[simp] theorem ctrlLocked_sum (S : Nat) (s : State) : (ctrlLocked S s).sum = s.sum := by unfold ctrlLocked; split_ifs <;> simp
@[simp] theorem ctrlLocked_fresh (S : Nat) (s : State) : (ctrlLocked S s).fresh = s.fresh := by unfold ctrlLocked; split_ifs <;> simp
@[simp] theorem ctrlLocked_feValid (S : Nat) (s : State) : (ctrlLocked S s).feValid = s.feValid := by unfold ctrlLocked; split_ifs <;> simp
@[simp] theorem ctrlLocked_feSum (S : Nat) (s : State) : (ctrlLocked S s).feSum = s.feSum := by unfold ctrlLocked; split_ifs <;> simp
@[simp] theorem ctrlLocked_dc (S : Nat) (s : State) : (ctrlLocked S s).dc = s.dc := by unfold ctrlLocked; split_ifs <;> simp
@[simp] theorem ctrlLocked_bitcnt (S : Nat) (s : State) : (ctrlLocked S s).bitcnt = s.bitcnt := by unfold ctrlLocked; split_ifs <;> simp
@[simp] theorem ctrlLocked_txActive (S : Nat) (s : State) : (ctrlLocked S s).txActive = s.txActive := by unfold ctrlLocked; split_ifs <;> simp
@[simp] theorem ctrlLocked_txCode (S : Nat) (s : State) : (ctrlLocked S s).txCode = s.txCode := by unfold ctrlLocked; split_ifs <;> simp
@[simp] theorem ctrlLocked_txElapsed (S : Nat) (s : State) : (ctrlLocked S s).txElapsed = s.txElapsed := by unfold ctrlLocked; split_ifs <;> simp
@[simp] theorem ctrlLocked_pub (S : Nat) (s : State) : (ctrlLocked S s).pub = s.pub := by unfold ctrlLocked; split_ifs <;> simp
@[simp] theorem ctrlLocked_handoff (S : Nat) (s : State) : (ctrlLocked S s).handoff = s.handoff := by unfold ctrlLocked; split_ifs <;> simp
@[simp] theorem ctrlLocked_polls (S : Nat) (s : State) : (ctrlLocked S s).polls = s.polls := by unfold ctrlLocked; split_ifs <;> simp
@[simp] theorem ctrlLocked_oscDc (S : Nat) (s : State) : (ctrlLocked S s).oscDc = s.oscDc := by unfold ctrlLocked; split_ifs <;> simp
@[simp] theorem ctrlLocked_capResp (S : Nat) (s : State) : (ctrlLocked S s).capResp = s.capResp := by unfold ctrlLocked; split_ifs <;> simp
@[simp] theorem ctrlLocked_out (S : Nat) (s : State) : (ctrlLocked S s).out = s.out := by unfold ctrlLocked; split_ifs <;> simp

/-! CTRL leaves these alone. -/

@[simp] theorem ctrl_cfg (S : Nat) (s : State) : (ctrl S s).cfg = s.cfg := by unfold ctrl; split <;> simp
@[simp] theorem ctrl_input (S : Nat) (s : State) : (ctrl S s).input = s.input := by unfold ctrl; split <;> simp
@[simp] theorem ctrl_tick (S : Nat) (s : State) : (ctrl S s).tick = s.tick := by unfold ctrl; split <;> simp
@[simp] theorem ctrl_rising (S : Nat) (s : State) : (ctrl S s).rising = s.rising := by unfold ctrl; split <;> simp
@[simp] theorem ctrl_prevRising (S : Nat) (s : State) : (ctrl S s).prevRising = s.prevRising := by unfold ctrl; split <;> simp
@[simp] theorem ctrl_nrise (S : Nat) (s : State) : (ctrl S s).nrise = s.nrise := by unfold ctrl; split <;> simp
@[simp] theorem ctrl_armed (S : Nat) (s : State) : (ctrl S s).armed = s.armed := by unfold ctrl; split <;> simp
@[simp] theorem ctrl_smpBt (S : Nat) (s : State) : (ctrl S s).smpBt = s.smpBt := by unfold ctrl; split <;> simp
@[simp] theorem ctrl_smpPw (S : Nat) (s : State) : (ctrl S s).smpPw = s.smpPw := by unfold ctrl; split <;> simp
@[simp] theorem ctrl_smpVal (S : Nat) (s : State) : (ctrl S s).smpVal = s.smpVal := by unfold ctrl; split <;> simp
@[simp] theorem ctrl_smpValid (S : Nat) (s : State) : (ctrl S s).smpValid = s.smpValid := by unfold ctrl; split <;> simp
@[simp] theorem ctrl_feValid (S : Nat) (s : State) : (ctrl S s).feValid = s.feValid := by unfold ctrl; split <;> simp
@[simp] theorem ctrl_feSum (S : Nat) (s : State) : (ctrl S s).feSum = s.feSum := by unfold ctrl; split <;> simp
@[simp] theorem ctrl_bitcnt (S : Nat) (s : State) : (ctrl S s).bitcnt = s.bitcnt := by unfold ctrl; split <;> simp
@[simp] theorem ctrl_txActive (S : Nat) (s : State) : (ctrl S s).txActive = s.txActive := by unfold ctrl; split <;> simp
@[simp] theorem ctrl_txCode (S : Nat) (s : State) : (ctrl S s).txCode = s.txCode := by unfold ctrl; split <;> simp
@[simp] theorem ctrl_txElapsed (S : Nat) (s : State) : (ctrl S s).txElapsed = s.txElapsed := by unfold ctrl; split <;> simp
@[simp] theorem ctrl_pub (S : Nat) (s : State) : (ctrl S s).pub = s.pub := by unfold ctrl; split <;> simp
@[simp] theorem ctrl_handoff (S : Nat) (s : State) : (ctrl S s).handoff = s.handoff := by unfold ctrl; split <;> simp
@[simp] theorem ctrl_polls (S : Nat) (s : State) : (ctrl S s).polls = s.polls := by unfold ctrl; split <;> simp
@[simp] theorem ctrl_capResp (S : Nat) (s : State) : (ctrl S s).capResp = s.capResp := by unfold ctrl; split <;> simp

/-- The records of CTRL: the BREAK event's, those of a correction step, or none. -/
def ctrlRecords (s : State) (S : Nat) : List OutRec :=
  if InTol s.cfg S then []
  else match s.ls with
    | .locked => []
    | .unlocked => if 0 = s.cfg.maxAttempts then [.evt .acquisitionTimeout] else applyRecords s.dc (runLaw s.cfg s.dc S)
    | .converging =>
      if s.attempts = s.cfg.maxAttempts then [.evt .acquisitionTimeout] else applyRecords s.dc (runLaw s.cfg s.dc S)

/-- What CTRL appends to `OUT`. -/
theorem ctrl_out (S : Nat) (s : State) : (ctrl S s).out = s.out ++ ctrlRecords s S := by
  have conv (u : State) : (ctrlConverging S u).out = u.out ++ if InTol u.cfg S then [] else
      if u.attempts = u.cfg.maxAttempts then [.evt .acquisitionTimeout] else applyRecords u.dc (runLaw u.cfg u.dc S) := by
    unfold ctrlConverging ctrlCorrect breakEvent
    split_ifs <;> simp
  unfold ctrl ctrlRecords
  cases s.ls
  · exact conv (enterLockState .converging s)
  · exact conv s
  · simp

/-! ### FRAME, SIG, TXADV -/

/-! FRAME leaves these alone. -/

@[simp] theorem frame_cfg (s : State) : ((frame s).2).cfg = s.cfg := by unfold frame; split <;> rfl
@[simp] theorem frame_input (s : State) : ((frame s).2).input = s.input := by unfold frame; split <;> rfl
@[simp] theorem frame_tick (s : State) : ((frame s).2).tick = s.tick := by unfold frame; split <;> rfl
@[simp] theorem frame_rising (s : State) : ((frame s).2).rising = s.rising := by unfold frame; split <;> rfl
@[simp] theorem frame_prevRising (s : State) : ((frame s).2).prevRising = s.prevRising := by unfold frame; split <;> rfl
@[simp] theorem frame_nrise (s : State) : ((frame s).2).nrise = s.nrise := by unfold frame; split <;> rfl
@[simp] theorem frame_armed (s : State) : ((frame s).2).armed = s.armed := by unfold frame; split <;> rfl
@[simp] theorem frame_smpBt (s : State) : ((frame s).2).smpBt = s.smpBt := by unfold frame; split <;> rfl
@[simp] theorem frame_smpPw (s : State) : ((frame s).2).smpPw = s.smpPw := by unfold frame; split <;> rfl
@[simp] theorem frame_smpVal (s : State) : ((frame s).2).smpVal = s.smpVal := by unfold frame; split <;> rfl
@[simp] theorem frame_smpValid (s : State) : ((frame s).2).smpValid = s.smpValid := by unfold frame; split <;> rfl
@[simp] theorem frame_win (s : State) : ((frame s).2).win = s.win := by unfold frame; split <;> rfl
@[simp] theorem frame_cnt (s : State) : ((frame s).2).cnt = s.cnt := by unfold frame; split <;> rfl
@[simp] theorem frame_sum (s : State) : ((frame s).2).sum = s.sum := by unfold frame; split <;> rfl
@[simp] theorem frame_fresh (s : State) : ((frame s).2).fresh = s.fresh := by unfold frame; split <;> rfl
@[simp] theorem frame_feValid (s : State) : ((frame s).2).feValid = s.feValid := by unfold frame; split <;> rfl
@[simp] theorem frame_feSum (s : State) : ((frame s).2).feSum = s.feSum := by unfold frame; split <;> rfl
@[simp] theorem frame_ls (s : State) : ((frame s).2).ls = s.ls := by unfold frame; split <;> rfl
@[simp] theorem frame_good (s : State) : ((frame s).2).good = s.good := by unfold frame; split <;> rfl
@[simp] theorem frame_bad (s : State) : ((frame s).2).bad = s.bad := by unfold frame; split <;> rfl
@[simp] theorem frame_attempts (s : State) : ((frame s).2).attempts = s.attempts := by unfold frame; split <;> rfl
@[simp] theorem frame_dc (s : State) : ((frame s).2).dc = s.dc := by unfold frame; split <;> rfl
@[simp] theorem frame_txActive (s : State) : ((frame s).2).txActive = s.txActive := by unfold frame; split <;> rfl
@[simp] theorem frame_txCode (s : State) : ((frame s).2).txCode = s.txCode := by unfold frame; split <;> rfl
@[simp] theorem frame_txElapsed (s : State) : ((frame s).2).txElapsed = s.txElapsed := by unfold frame; split <;> rfl
@[simp] theorem frame_pub (s : State) : ((frame s).2).pub = s.pub := by unfold frame; split <;> rfl
@[simp] theorem frame_handoff (s : State) : ((frame s).2).handoff = s.handoff := by unfold frame; split <;> rfl
@[simp] theorem frame_polls (s : State) : ((frame s).2).polls = s.polls := by unfold frame; split <;> rfl
@[simp] theorem frame_oscDc (s : State) : ((frame s).2).oscDc = s.oscDc := by unfold frame; split <;> rfl
@[simp] theorem frame_capResp (s : State) : ((frame s).2).capResp = s.capResp := by unfold frame; split <;> rfl
@[simp] theorem frame_out (s : State) : ((frame s).2).out = s.out := by unfold frame; split <;> rfl

/-- FRAME reports a boundary exactly at the last sample of a frame. -/
@[simp] theorem frame_boundary (s : State) : (frame s).1 = decide (s.bitcnt + 1 = s.cfg.frameBits) := by
  unfold frame; split <;> simp_all

/-- FRAME counts to `FRAME_BITS` and starts again. -/
@[simp] theorem frame_bitcnt (s : State) :
    (frame s).2.bitcnt = if s.bitcnt + 1 = s.cfg.frameBits then 0 else s.bitcnt + 1 := by
  unfold frame; split <;> rfl

/-! Handing a code to the transmitter leaves these alone. -/

@[simp] theorem sendCode_cfg (c : StatusCode) (s : State) : (sendCode c s).cfg = s.cfg := by unfold sendCode noteSaturation; split <;> rfl
@[simp] theorem sendCode_input (c : StatusCode) (s : State) : (sendCode c s).input = s.input := by unfold sendCode noteSaturation; split <;> rfl
@[simp] theorem sendCode_tick (c : StatusCode) (s : State) : (sendCode c s).tick = s.tick := by unfold sendCode noteSaturation; split <;> rfl
@[simp] theorem sendCode_rising (c : StatusCode) (s : State) : (sendCode c s).rising = s.rising := by unfold sendCode noteSaturation; split <;> rfl
@[simp] theorem sendCode_prevRising (c : StatusCode) (s : State) : (sendCode c s).prevRising = s.prevRising := by unfold sendCode noteSaturation; split <;> rfl
@[simp] theorem sendCode_nrise (c : StatusCode) (s : State) : (sendCode c s).nrise = s.nrise := by unfold sendCode noteSaturation; split <;> rfl
@[simp] theorem sendCode_armed (c : StatusCode) (s : State) : (sendCode c s).armed = s.armed := by unfold sendCode noteSaturation; split <;> rfl
@[simp] theorem sendCode_smpBt (c : StatusCode) (s : State) : (sendCode c s).smpBt = s.smpBt := by unfold sendCode noteSaturation; split <;> rfl
@[simp] theorem sendCode_smpPw (c : StatusCode) (s : State) : (sendCode c s).smpPw = s.smpPw := by unfold sendCode noteSaturation; split <;> rfl
@[simp] theorem sendCode_smpVal (c : StatusCode) (s : State) : (sendCode c s).smpVal = s.smpVal := by unfold sendCode noteSaturation; split <;> rfl
@[simp] theorem sendCode_smpValid (c : StatusCode) (s : State) : (sendCode c s).smpValid = s.smpValid := by unfold sendCode noteSaturation; split <;> rfl
@[simp] theorem sendCode_win (c : StatusCode) (s : State) : (sendCode c s).win = s.win := by unfold sendCode noteSaturation; split <;> rfl
@[simp] theorem sendCode_cnt (c : StatusCode) (s : State) : (sendCode c s).cnt = s.cnt := by unfold sendCode noteSaturation; split <;> rfl
@[simp] theorem sendCode_sum (c : StatusCode) (s : State) : (sendCode c s).sum = s.sum := by unfold sendCode noteSaturation; split <;> rfl
@[simp] theorem sendCode_fresh (c : StatusCode) (s : State) : (sendCode c s).fresh = s.fresh := by unfold sendCode noteSaturation; split <;> rfl
@[simp] theorem sendCode_feValid (c : StatusCode) (s : State) : (sendCode c s).feValid = s.feValid := by unfold sendCode noteSaturation; split <;> rfl
@[simp] theorem sendCode_feSum (c : StatusCode) (s : State) : (sendCode c s).feSum = s.feSum := by unfold sendCode noteSaturation; split <;> rfl
@[simp] theorem sendCode_ls (c : StatusCode) (s : State) : (sendCode c s).ls = s.ls := by unfold sendCode noteSaturation; split <;> rfl
@[simp] theorem sendCode_good (c : StatusCode) (s : State) : (sendCode c s).good = s.good := by unfold sendCode noteSaturation; split <;> rfl
@[simp] theorem sendCode_bad (c : StatusCode) (s : State) : (sendCode c s).bad = s.bad := by unfold sendCode noteSaturation; split <;> rfl
@[simp] theorem sendCode_attempts (c : StatusCode) (s : State) : (sendCode c s).attempts = s.attempts := by unfold sendCode noteSaturation; split <;> rfl
@[simp] theorem sendCode_dc (c : StatusCode) (s : State) : (sendCode c s).dc = s.dc := by unfold sendCode noteSaturation; split <;> rfl
@[simp] theorem sendCode_bitcnt (c : StatusCode) (s : State) : (sendCode c s).bitcnt = s.bitcnt := by unfold sendCode noteSaturation; split <;> rfl
@[simp] theorem sendCode_pub (c : StatusCode) (s : State) : (sendCode c s).pub = s.pub := by unfold sendCode noteSaturation; split <;> rfl
@[simp] theorem sendCode_handoff (c : StatusCode) (s : State) : (sendCode c s).handoff = s.handoff := by unfold sendCode noteSaturation; split <;> rfl
@[simp] theorem sendCode_polls (c : StatusCode) (s : State) : (sendCode c s).polls = s.polls := by unfold sendCode noteSaturation; split <;> rfl
@[simp] theorem sendCode_oscDc (c : StatusCode) (s : State) : (sendCode c s).oscDc = s.oscDc := by unfold sendCode noteSaturation; split <;> rfl
@[simp] theorem sendCode_capResp (c : StatusCode) (s : State) : (sendCode c s).capResp = s.capResp := by unfold sendCode noteSaturation; split <;> rfl

/-! SIG at a boundary leaves these alone. -/

@[simp] theorem sigIfBoundary_cfg (x : Bool × State) : (sigIfBoundary x).cfg = x.2.cfg := by unfold sigIfBoundary sig; split <;> simp
@[simp] theorem sigIfBoundary_input (x : Bool × State) : (sigIfBoundary x).input = x.2.input := by unfold sigIfBoundary sig; split <;> simp
@[simp] theorem sigIfBoundary_tick (x : Bool × State) : (sigIfBoundary x).tick = x.2.tick := by unfold sigIfBoundary sig; split <;> simp
@[simp] theorem sigIfBoundary_rising (x : Bool × State) : (sigIfBoundary x).rising = x.2.rising := by unfold sigIfBoundary sig; split <;> simp
@[simp] theorem sigIfBoundary_prevRising (x : Bool × State) : (sigIfBoundary x).prevRising = x.2.prevRising := by unfold sigIfBoundary sig; split <;> simp
@[simp] theorem sigIfBoundary_nrise (x : Bool × State) : (sigIfBoundary x).nrise = x.2.nrise := by unfold sigIfBoundary sig; split <;> simp
@[simp] theorem sigIfBoundary_armed (x : Bool × State) : (sigIfBoundary x).armed = x.2.armed := by unfold sigIfBoundary sig; split <;> simp
@[simp] theorem sigIfBoundary_smpBt (x : Bool × State) : (sigIfBoundary x).smpBt = x.2.smpBt := by unfold sigIfBoundary sig; split <;> simp
@[simp] theorem sigIfBoundary_smpPw (x : Bool × State) : (sigIfBoundary x).smpPw = x.2.smpPw := by unfold sigIfBoundary sig; split <;> simp
@[simp] theorem sigIfBoundary_smpVal (x : Bool × State) : (sigIfBoundary x).smpVal = x.2.smpVal := by unfold sigIfBoundary sig; split <;> simp
@[simp] theorem sigIfBoundary_smpValid (x : Bool × State) : (sigIfBoundary x).smpValid = x.2.smpValid := by unfold sigIfBoundary sig; split <;> simp
@[simp] theorem sigIfBoundary_win (x : Bool × State) : (sigIfBoundary x).win = x.2.win := by unfold sigIfBoundary sig; split <;> simp
@[simp] theorem sigIfBoundary_cnt (x : Bool × State) : (sigIfBoundary x).cnt = x.2.cnt := by unfold sigIfBoundary sig; split <;> simp
@[simp] theorem sigIfBoundary_sum (x : Bool × State) : (sigIfBoundary x).sum = x.2.sum := by unfold sigIfBoundary sig; split <;> simp
@[simp] theorem sigIfBoundary_fresh (x : Bool × State) : (sigIfBoundary x).fresh = x.2.fresh := by unfold sigIfBoundary sig; split <;> simp
@[simp] theorem sigIfBoundary_feValid (x : Bool × State) : (sigIfBoundary x).feValid = x.2.feValid := by unfold sigIfBoundary sig; split <;> simp
@[simp] theorem sigIfBoundary_feSum (x : Bool × State) : (sigIfBoundary x).feSum = x.2.feSum := by unfold sigIfBoundary sig; split <;> simp
@[simp] theorem sigIfBoundary_ls (x : Bool × State) : (sigIfBoundary x).ls = x.2.ls := by unfold sigIfBoundary sig; split <;> simp
@[simp] theorem sigIfBoundary_good (x : Bool × State) : (sigIfBoundary x).good = x.2.good := by unfold sigIfBoundary sig; split <;> simp
@[simp] theorem sigIfBoundary_bad (x : Bool × State) : (sigIfBoundary x).bad = x.2.bad := by unfold sigIfBoundary sig; split <;> simp
@[simp] theorem sigIfBoundary_attempts (x : Bool × State) : (sigIfBoundary x).attempts = x.2.attempts := by unfold sigIfBoundary sig; split <;> simp
@[simp] theorem sigIfBoundary_dc (x : Bool × State) : (sigIfBoundary x).dc = x.2.dc := by unfold sigIfBoundary sig; split <;> simp
@[simp] theorem sigIfBoundary_bitcnt (x : Bool × State) : (sigIfBoundary x).bitcnt = x.2.bitcnt := by unfold sigIfBoundary sig; split <;> simp
@[simp] theorem sigIfBoundary_pub (x : Bool × State) : (sigIfBoundary x).pub = x.2.pub := by unfold sigIfBoundary sig; split <;> simp
@[simp] theorem sigIfBoundary_handoff (x : Bool × State) : (sigIfBoundary x).handoff = x.2.handoff := by unfold sigIfBoundary sig; split <;> simp
@[simp] theorem sigIfBoundary_polls (x : Bool × State) : (sigIfBoundary x).polls = x.2.polls := by unfold sigIfBoundary sig; split <;> simp
@[simp] theorem sigIfBoundary_oscDc (x : Bool × State) : (sigIfBoundary x).oscDc = x.2.oscDc := by unfold sigIfBoundary sig; split <;> simp
@[simp] theorem sigIfBoundary_capResp (x : Bool × State) : (sigIfBoundary x).capResp = x.2.capResp := by unfold sigIfBoundary sig; split <;> simp

/-- What handing a code to the transmitter appends to `OUT`. -/
@[simp] theorem sendCode_out (c : StatusCode) (s : State) :
    (sendCode c s).out = s.out ++ ((if s.txActive = true then [.evt .linkSaturation] else []) ++ [.emit c]) := by
  unfold sendCode noteSaturation; split <;> simp

/-- What SIG at a boundary appends to `OUT`. -/
theorem sigIfBoundary_out (x : Bool × State) :
    (sigIfBoundary x).out = x.2.out ++ if x.1 = true then
      (if x.2.txActive = true then [.evt .linkSaturation] else []) ++ [.emit (codeFor x.2.ls)] else [] := by
  unfold sigIfBoundary sig; split <;> simp_all

/-! TXADV leaves these alone. -/

@[simp] theorem txAdv_cfg (n : Nat) (s : State) : (txAdv n s).cfg = s.cfg := by unfold txAdv; split_ifs <;> rfl
@[simp] theorem txAdv_input (n : Nat) (s : State) : (txAdv n s).input = s.input := by unfold txAdv; split_ifs <;> rfl
@[simp] theorem txAdv_tick (n : Nat) (s : State) : (txAdv n s).tick = s.tick := by unfold txAdv; split_ifs <;> rfl
@[simp] theorem txAdv_rising (n : Nat) (s : State) : (txAdv n s).rising = s.rising := by unfold txAdv; split_ifs <;> rfl
@[simp] theorem txAdv_prevRising (n : Nat) (s : State) : (txAdv n s).prevRising = s.prevRising := by unfold txAdv; split_ifs <;> rfl
@[simp] theorem txAdv_nrise (n : Nat) (s : State) : (txAdv n s).nrise = s.nrise := by unfold txAdv; split_ifs <;> rfl
@[simp] theorem txAdv_armed (n : Nat) (s : State) : (txAdv n s).armed = s.armed := by unfold txAdv; split_ifs <;> rfl
@[simp] theorem txAdv_smpBt (n : Nat) (s : State) : (txAdv n s).smpBt = s.smpBt := by unfold txAdv; split_ifs <;> rfl
@[simp] theorem txAdv_smpPw (n : Nat) (s : State) : (txAdv n s).smpPw = s.smpPw := by unfold txAdv; split_ifs <;> rfl
@[simp] theorem txAdv_smpVal (n : Nat) (s : State) : (txAdv n s).smpVal = s.smpVal := by unfold txAdv; split_ifs <;> rfl
@[simp] theorem txAdv_smpValid (n : Nat) (s : State) : (txAdv n s).smpValid = s.smpValid := by unfold txAdv; split_ifs <;> rfl
@[simp] theorem txAdv_win (n : Nat) (s : State) : (txAdv n s).win = s.win := by unfold txAdv; split_ifs <;> rfl
@[simp] theorem txAdv_cnt (n : Nat) (s : State) : (txAdv n s).cnt = s.cnt := by unfold txAdv; split_ifs <;> rfl
@[simp] theorem txAdv_sum (n : Nat) (s : State) : (txAdv n s).sum = s.sum := by unfold txAdv; split_ifs <;> rfl
@[simp] theorem txAdv_fresh (n : Nat) (s : State) : (txAdv n s).fresh = s.fresh := by unfold txAdv; split_ifs <;> rfl
@[simp] theorem txAdv_feValid (n : Nat) (s : State) : (txAdv n s).feValid = s.feValid := by unfold txAdv; split_ifs <;> rfl
@[simp] theorem txAdv_feSum (n : Nat) (s : State) : (txAdv n s).feSum = s.feSum := by unfold txAdv; split_ifs <;> rfl
@[simp] theorem txAdv_ls (n : Nat) (s : State) : (txAdv n s).ls = s.ls := by unfold txAdv; split_ifs <;> rfl
@[simp] theorem txAdv_good (n : Nat) (s : State) : (txAdv n s).good = s.good := by unfold txAdv; split_ifs <;> rfl
@[simp] theorem txAdv_bad (n : Nat) (s : State) : (txAdv n s).bad = s.bad := by unfold txAdv; split_ifs <;> rfl
@[simp] theorem txAdv_attempts (n : Nat) (s : State) : (txAdv n s).attempts = s.attempts := by unfold txAdv; split_ifs <;> rfl
@[simp] theorem txAdv_dc (n : Nat) (s : State) : (txAdv n s).dc = s.dc := by unfold txAdv; split_ifs <;> rfl
@[simp] theorem txAdv_bitcnt (n : Nat) (s : State) : (txAdv n s).bitcnt = s.bitcnt := by unfold txAdv; split_ifs <;> rfl
@[simp] theorem txAdv_txCode (n : Nat) (s : State) : (txAdv n s).txCode = s.txCode := by unfold txAdv; split_ifs <;> rfl
@[simp] theorem txAdv_pub (n : Nat) (s : State) : (txAdv n s).pub = s.pub := by unfold txAdv; split_ifs <;> rfl
@[simp] theorem txAdv_handoff (n : Nat) (s : State) : (txAdv n s).handoff = s.handoff := by unfold txAdv; split_ifs <;> rfl
@[simp] theorem txAdv_polls (n : Nat) (s : State) : (txAdv n s).polls = s.polls := by unfold txAdv; split_ifs <;> rfl
@[simp] theorem txAdv_oscDc (n : Nat) (s : State) : (txAdv n s).oscDc = s.oscDc := by unfold txAdv; split_ifs <;> rfl
@[simp] theorem txAdv_capResp (n : Nat) (s : State) : (txAdv n s).capResp = s.capResp := by unfold txAdv; split_ifs <;> rfl
@[simp] theorem txAdv_out (n : Nat) (s : State) : (txAdv n s).out = s.out := by unfold txAdv; split_ifs <;> rfl

/-! ### The pass -/

/-! CTRL at an emission leaves these alone. -/

@[simp] theorem ctrlIfEmitted_cfg (x : Option Nat × State) : (ctrlIfEmitted x).cfg = x.2.cfg := by unfold ctrlIfEmitted; split <;> simp
@[simp] theorem ctrlIfEmitted_input (x : Option Nat × State) : (ctrlIfEmitted x).input = x.2.input := by unfold ctrlIfEmitted; split <;> simp
@[simp] theorem ctrlIfEmitted_tick (x : Option Nat × State) : (ctrlIfEmitted x).tick = x.2.tick := by unfold ctrlIfEmitted; split <;> simp
@[simp] theorem ctrlIfEmitted_rising (x : Option Nat × State) : (ctrlIfEmitted x).rising = x.2.rising := by unfold ctrlIfEmitted; split <;> simp
@[simp] theorem ctrlIfEmitted_prevRising (x : Option Nat × State) : (ctrlIfEmitted x).prevRising = x.2.prevRising := by unfold ctrlIfEmitted; split <;> simp
@[simp] theorem ctrlIfEmitted_nrise (x : Option Nat × State) : (ctrlIfEmitted x).nrise = x.2.nrise := by unfold ctrlIfEmitted; split <;> simp
@[simp] theorem ctrlIfEmitted_armed (x : Option Nat × State) : (ctrlIfEmitted x).armed = x.2.armed := by unfold ctrlIfEmitted; split <;> simp
@[simp] theorem ctrlIfEmitted_smpBt (x : Option Nat × State) : (ctrlIfEmitted x).smpBt = x.2.smpBt := by unfold ctrlIfEmitted; split <;> simp
@[simp] theorem ctrlIfEmitted_smpPw (x : Option Nat × State) : (ctrlIfEmitted x).smpPw = x.2.smpPw := by unfold ctrlIfEmitted; split <;> simp
@[simp] theorem ctrlIfEmitted_smpVal (x : Option Nat × State) : (ctrlIfEmitted x).smpVal = x.2.smpVal := by unfold ctrlIfEmitted; split <;> simp
@[simp] theorem ctrlIfEmitted_smpValid (x : Option Nat × State) : (ctrlIfEmitted x).smpValid = x.2.smpValid := by unfold ctrlIfEmitted; split <;> simp
@[simp] theorem ctrlIfEmitted_feValid (x : Option Nat × State) : (ctrlIfEmitted x).feValid = x.2.feValid := by unfold ctrlIfEmitted; split <;> simp
@[simp] theorem ctrlIfEmitted_feSum (x : Option Nat × State) : (ctrlIfEmitted x).feSum = x.2.feSum := by unfold ctrlIfEmitted; split <;> simp
@[simp] theorem ctrlIfEmitted_bitcnt (x : Option Nat × State) : (ctrlIfEmitted x).bitcnt = x.2.bitcnt := by unfold ctrlIfEmitted; split <;> simp
@[simp] theorem ctrlIfEmitted_txActive (x : Option Nat × State) : (ctrlIfEmitted x).txActive = x.2.txActive := by unfold ctrlIfEmitted; split <;> simp
@[simp] theorem ctrlIfEmitted_txCode (x : Option Nat × State) : (ctrlIfEmitted x).txCode = x.2.txCode := by unfold ctrlIfEmitted; split <;> simp
@[simp] theorem ctrlIfEmitted_txElapsed (x : Option Nat × State) : (ctrlIfEmitted x).txElapsed = x.2.txElapsed := by unfold ctrlIfEmitted; split <;> simp
@[simp] theorem ctrlIfEmitted_pub (x : Option Nat × State) : (ctrlIfEmitted x).pub = x.2.pub := by unfold ctrlIfEmitted; split <;> simp
@[simp] theorem ctrlIfEmitted_handoff (x : Option Nat × State) : (ctrlIfEmitted x).handoff = x.2.handoff := by unfold ctrlIfEmitted; split <;> simp
@[simp] theorem ctrlIfEmitted_polls (x : Option Nat × State) : (ctrlIfEmitted x).polls = x.2.polls := by unfold ctrlIfEmitted; split <;> simp
@[simp] theorem ctrlIfEmitted_capResp (x : Option Nat × State) : (ctrlIfEmitted x).capResp = x.2.capResp := by unfold ctrlIfEmitted; split <;> simp

/-- What CTRL at an emission appends to `OUT`. -/
theorem ctrlIfEmitted_out (x : Option Nat × State) :
    (ctrlIfEmitted x).out = x.2.out ++ (x.1.map (ctrlRecords x.2)).getD [] := by
  unfold ctrlIfEmitted; split <;> simp_all [ctrl_out]

/-! The pass leaves these alone. -/

@[simp] theorem runPass_cfg (b : BitSample) (s : State) : (runPass b s).cfg = s.cfg := by simp [runPass]
@[simp] theorem runPass_input (b : BitSample) (s : State) : (runPass b s).input = s.input := by simp [runPass]
@[simp] theorem runPass_tick (b : BitSample) (s : State) : (runPass b s).tick = s.tick := by simp [runPass]
@[simp] theorem runPass_rising (b : BitSample) (s : State) : (runPass b s).rising = s.rising := by simp [runPass]
@[simp] theorem runPass_prevRising (b : BitSample) (s : State) : (runPass b s).prevRising = s.prevRising := by simp [runPass]
@[simp] theorem runPass_nrise (b : BitSample) (s : State) : (runPass b s).nrise = s.nrise := by simp [runPass]
@[simp] theorem runPass_armed (b : BitSample) (s : State) : (runPass b s).armed = s.armed := by simp [runPass]
@[simp] theorem runPass_handoff (b : BitSample) (s : State) : (runPass b s).handoff = s.handoff := by simp [runPass]
@[simp] theorem runPass_polls (b : BitSample) (s : State) : (runPass b s).polls = s.polls := by simp [runPass]
@[simp] theorem runPass_capResp (b : BitSample) (s : State) : (runPass b s).capResp = s.capResp := by simp [runPass]

/-- The pass records the sample it ran on. -/
@[simp] theorem runPass_sample (b : BitSample) (s : State) :
    (runPass b s).smpBt = b.bt ∧ (runPass b s).smpPw = b.pw ∧ (runPass b s).smpVal = b.val ∧ (runPass b s).smpValid = true := by
  simp [runPass]

/-- The pass publishes its own result. -/
theorem runPass_pub (b : BitSample) (s : State) : (runPass b s).pub = snapshot (runPass b s) := rfl

/-- Every pass counts its sample. -/
@[simp] theorem runPass_bitcnt (b : BitSample) (s : State) :
    (runPass b s).bitcnt = if s.bitcnt + 1 = s.cfg.frameBits then 0 else s.bitcnt + 1 := by
  simp [runPass]

/-! ### The step -/

/-- The first issued word decodes and stands at the port of its class. -/
theorem admission_of_decode {x : Issue} {i : Instr} (h : decodeWord x.word = .instr i) (hp : i.opClass = x.port) :
    admission x = .run i := by simp [admission, h, hp]

/-- An admitted word decodes to the operation that runs, at the port of its class. -/
theorem decode_of_admission {x : Issue} {i : Instr} (h : admission x = .run i) :
    decodeWord x.word = .instr i ∧ i.opClass = x.port := by
  unfold admission at h
  split at h
  · cases h
  · split at h
    · simp_all
    · cases h

/-- A step that answers a next state idled or ran the first issued operation. -/
theorem step_cases {s t : State} (h : step s = .next t) :
    (s.input = [] ∧ t = s) ∨
    ∃ x rest i, s.input = x :: rest ∧ admission x = .run i ∧ exec i { s with input := rest } = .next t := by
  unfold step at h
  split at h
  · left; exact ⟨by assumption, by cases h; rfl⟩
  · right
    split at h
    · exact ⟨_, _, _, by assumption, by assumption, h⟩
    · cases h

end Sys2Proof.Machine
end

