-- ==== Sys2Proof/Laws/Pass.lean ====
section
/-! SUPPORT. Facts about configurations and laws, timestamp differences, the estimator's window, and the state CTRL
reads. -/

namespace Sys2Proof

/-- The reference configuration meets the constraints of 00_scope.md R8. -/
theorem Config.refcfg_valid : Config.refcfg.Valid := by constructor <;> decide

/-- So does the test configuration. -/
theorem Config.testcfg_valid : Config.testcfg.Valid := by constructor <;> decide

/-- There is at least one W-bit number. -/
theorem Config.modulus_pos (c : Config) : 0 < c.modulus := Nat.two_pow_pos c.w

namespace Machine

/-! ### The law -/

/-- A DriveConfig is one step from itself. -/
theorem OneStep.refl (dc : DriveConfig) : OneStep dc dc := ⟨rfl, .inl rfl⟩

/-- What a table of valid single steps answers is a valid single step. -/
theorem tableLaw_ok {rows : List (DriveConfig × Nat × DriveConfig)}
    (h : ∀ r ∈ rows, r.2.2.Valid ∧ OneStep r.1 r.2.2) {dc : DriveConfig} (hd : dc.Valid) (S : Nat) :
    (tableLaw rows dc S).Valid ∧ OneStep dc (tableLaw rows dc S) := by
  induction rows with
  | nil => exact ⟨hd, .refl dc⟩
  | cons r rows ih =>
    obtain ⟨d, t, d'⟩ := r
    simp only [List.mem_cons, forall_eq_or_imp] at h
    unfold tableLaw
    split
    · rename_i he; exact he.1 ▸ h.1
    · exact ih h.2

/-- A configuration whose law is a table of valid single steps has a law of 42_oscillator_controller.md R160. -/
theorem lawOk_of_table {c : Config} {rows : List (DriveConfig × Nat × DriveConfig)} (hc : c.law = .table rows)
    (h : ∀ r ∈ rows, r.2.2.Valid ∧ OneStep r.1 r.2.2) : LawOk c := by
  intro dc S hd _
  simpa only [runLaw, hc] using tableLaw_ok h hd S

/-! ### Timestamps -/

/-- A timestamp difference is a W-bit number. -/
theorem wrapSafeDiff_lt (c : Config) (a b : Nat) : wrapSafeDiff c a b < c.modulus := by
  have hp : (0 : Int) < c.modulus := by exact_mod_cast Config.modulus_pos c
  have := Int.emod_lt_of_pos ((b : Int) - a) hp
  have := Int.emod_nonneg ((b : Int) - a) hp.ne'
  unfold wrapSafeDiff
  omega

/-! ### The estimator's window -/

/-- The length and the sum of the window once a bit time is accepted, from `CNT` and `SUM` alone. -/
theorem windowWith_length_sum {s : State} (h : EstInv s) (bt : Nat) :
    (windowWith s bt).length = (if s.cnt = s.cfg.n then s.cnt - 1 else s.cnt) + 1 ∧
    (windowWith s bt).sum = (if s.cnt = s.cfg.n then s.sum - s.win.headD 0 else s.sum) + bt := by
  have hc := h.cnt_eq
  have hs := h.sum_eq
  unfold windowWith
  split
  · cases hw : s.win <;> simp_all
  · simp_all

/-- Making room and appending keep `CNT` and `SUM` in step with the window. -/
theorem appendSample_slide {s : State} (h : EstInv s) (bt : Nat) :
    appendSample bt (slide s) = { s with
      win := windowWith s bt, cnt := (windowWith s bt).length, sum := (windowWith s bt).sum, fresh := s.fresh + 1 } := by
  rw [(windowWith_length_sum h bt).1, (windowWith_length_sum h bt).2]
  unfold slide windowWith
  split <;> simp [appendSample]

/-- EST emits the window's sum exactly at the N-th newly accepted sample. -/
theorem est_emitted {s : State} (h : EstInv s) (bt : Nat) :
    (est bt s).1 = if ¬ Glitch s bt ∧ s.fresh + 1 = s.cfg.n then some (windowWith s bt).sum else none := by
  by_cases hg : Glitch s bt
  · rw [est_of_glitch hg, if_neg fun x => x.1 hg]
  · rw [est_of_not_glitch hg, appendSample_slide h]
    simp only [emission]
    split_ifs <;> simp_all

/-! ### The falling edge -/

/-- A falling edge that completes a sample runs the pass on it. -/
theorem fall_of_sample {s : State} (h : SampleBearing s) :
    exec .fall s = .next (runPass (sampleNow s) { s with armed := false }) := by
  simp only [exec, execFall, onFalling, h.1, h.2, if_true]; rfl

/-- A falling edge that completes none leaves the machine disarmed and nothing else changed. -/
theorem fall_of_no_sample {s : State} (h : ¬ SampleBearing s) : exec .fall s = .next { s with armed := false } := by
  cases s
  simp only [SampleBearing] at h
  simp only [exec, execFall, onFalling]
  split_ifs <;> simp_all

/-! ### What CTRL reads -/

/-- The device's DriveConfig after APPLY depends on the two DriveConfigs alone. -/
theorem applyStep_oscDc_congr (d : DriveConfig) {s u : State} (h : s.dc = u.dc) (ho : s.oscDc = u.oscDc) :
    (applyStep d s).oscDc = (applyStep d u).oscDc := by
  simp only [applyStep, applyDc_oscDc, h]
  unfold issueIf issueCommand devCommand devSetdc devSetdiv devSetrng emitRec
  split_ifs <;> simp_all

/-- CTRL's result depends on the configuration and its own state alone. -/
theorem ctrl_congr (S : Nat) {s u : State} (hc : s.cfg = u.cfg) (h : ctrlView s = ctrlView u) :
    ctrlView (ctrl S s) = ctrlView (ctrl S u) := by
  have conv {s u : State} (hc : s.cfg = u.cfg) (h : ctrlView s = ctrlView u) :
      ctrlView (ctrlConverging S s) = ctrlView (ctrlConverging S u) := by
    simp only [ctrlView, Prod.mk.injEq] at h
    obtain ⟨h1, h2, h3, h4, h5, h6⟩ := h
    unfold ctrlConverging ctrlCorrect
    rw [hc, h2, h4, h5]
    split_ifs <;> simp_all [ctrlView, enterLockState, breakEvent, takeEvent, emitRec]
    exact applyStep_oscDc_congr _ (by simp) (by simp)
  simp only [ctrlView, Prod.mk.injEq] at h
  obtain ⟨h1, h2, h3, h4, h5, h6⟩ := h
  unfold ctrl
  rw [h1]
  cases u.ls
  · exact conv (by simp [enterLockState, hc]) (by simp [ctrlView, enterLockState, *])
  · exact conv hc (by simp [ctrlView, *])
  · simp only [ctrlLocked, hc, h3]
    split_ifs <;> simp_all [ctrlView, enterLockState]

/-- CTRL leaves the window where it leaves `DC`, and empties it where it changes `DC`. -/
theorem ctrl_windowView (S : Nat) (s : State) :
    windowView (ctrl S s) = if (ctrl S s).dc = s.dc then windowView s else ([], 0, 0, 0) := by
  have apply' (d : DriveConfig) (u : State) :
      windowView (applyStep d u) = if (applyStep d u).dc = u.dc then windowView u else ([], 0, 0, 0) := by
    rw [applyStep_dc]
    unfold applyStep applyDc
    split <;> simp_all [windowView, wreset]
  have conv (u : State) :
      windowView (ctrlConverging S u) = if (ctrlConverging S u).dc = u.dc then windowView u else ([], 0, 0, 0) := by
    unfold ctrlConverging ctrlCorrect
    split_ifs <;> first | exact apply' _ _ | simp_all [windowView, breakEvent, takeEvent, emitRec, enterLockState]
  unfold ctrl
  cases s.ls
  · exact conv (enterLockState .converging s)
  · exact conv s
  · simp only [ctrlLocked]
    split_ifs <;> simp_all [windowView, enterLockState]

/-! ### The invariants -/

/-- Of the operations still to come the invariants say only where they are issued. -/
theorem Inv.withInput {s : State} (h : Inv s) {l : List Issue} (hl : ∀ x ∈ l, x.port = OpClass.stimulus) :
    Inv { s with input := l } where
  cfg_valid := h.cfg_valid
  law_ok := h.law_ok
  stimulus_only := hl
  capture := ⟨h.capture.1, h.capture.2, h.capture.3, h.capture.4, h.capture.5, h.capture.6, h.capture.7⟩
  estimator := ⟨h.estimator.1, h.estimator.2, h.estimator.3, h.estimator.4, h.estimator.5, h.estimator.6, h.estimator.7⟩
  controller := ⟨h.controller.1, h.controller.2, h.controller.3, h.controller.4, h.controller.5, h.controller.6⟩
  drive := ⟨h.drive.1, h.drive.2⟩
  bitcnt_lt := h.bitcnt_lt
  transmitter := ⟨h.transmitter.1, h.transmitter.2⟩
  pub_eq := h.pub_eq
  handoff_seen := h.handoff_seen

end Machine

end Sys2Proof
end

