-- ==== Sys2Proof/Laws/PerInstr.lean ====
section
/-! SUPPORT. Statements made of every operation as syntax, one lemma per constructor. -/

namespace Sys2Proof.Laws.OpcodeByte

/-- The opcode byte of an operation's word is that of its row of the opcode table, whose mnemonic and class it has
(30_encoding.md R80, R83). -/
def Statement (i : Instr) : Prop :=
  ∃ r ∈ opTable, r.mnemonic = i.mnemonic ∧ r.opClass = i.opClass ∧ opField (encode i) = r.bits.extractLsb' 24 8

/-- The statement for an operation of the row with its mnemonic, class and opcode. -/
theorem of_row {i : Instr} (r : OpRow) (hr : r ∈ opTable) (hm : r.mnemonic = i.mnemonic) (hc : r.opClass = i.opClass)
    (ho : i.opcode = r.bits.extractLsb' 24 8) : Statement i :=
  ⟨r, hr, hm, hc, by rw [encode, opField_place, ho]⟩

theorem adv (n : BitVec 24) : Statement (.adv n) := of_row opTable[0] (by decide) rfl rfl rfl
theorem rise : Statement .rise := of_row opTable[1] (by decide) rfl rfl rfl
theorem fall : Statement .fall := of_row opTable[2] (by decide) rfl rfl rfl
theorem rst : Statement .rst := of_row opTable[3] (by decide) rfl rfl rfl
theorem poll : Statement .poll := of_row opTable[4] (by decide) rfl rfl rfl
theorem getdc : Statement .getdc := of_row opTable[5] (by decide) rfl rfl rfl
theorem setdc (ds : BitVec 16) : Statement (.setdc ds) := of_row opTable[6] (by decide) rfl rfl rfl
theorem setdiv (d : BitVec 6) : Statement (.setdiv d) := of_row opTable[7] (by decide) rfl rfl rfl
theorem setrng (r : Range) : Statement (.setrng r) := of_row opTable[8] (by decide) rfl rfl rfl
theorem emit (c : StatusCode) : Statement (.emit c) := of_row opTable[9] (by decide) rfl rfl rfl
theorem evt (k : ErrorKind) : Statement (.evt k) := of_row opTable[10] (by decide) rfl rfl rfl

end Sys2Proof.Laws.OpcodeByte
end

