-- ==== Sys2Proof/Tests/Slice0.lean ====
section
/-! SUPPORT. The model's own tests: expected values from the words of 30_encoding.md and the vectors of
95_test_vectors.md; and, for every statement with hypotheses, states and operands that meet them. -/

namespace Sys2Proof.Tests

open Sys2Proof.Machine

/-! ## Well-formedness: each check refuses an ill-formed term -/

theorem test_setdiv_zero_ill_formed : ¬ (Instr.setdiv 0).WellFormed := by decide
theorem test_setdiv_33_ill_formed : ¬ (Instr.setdiv 33).WellFormed := by decide
theorem test_setdiv_63_ill_formed : ¬ (Instr.setdiv 63).WellFormed := by decide
theorem test_setdiv_bounds_well_formed : (Instr.setdiv 1).WellFormed ∧ (Instr.setdiv 32).WellFormed := by decide

/-! ## Decoding: words written out from 30_encoding.md (V13) -/

theorem test_decode_adv : decodeWord 0x01FFFFFF = .instr (.adv 16777215) ∧ decodeWord 0x0100007D = .instr (.adv 125) := by
  decide
theorem test_decode_edges : decodeWord 0x02000000 = .instr .rise ∧ decodeWord 0x03000000 = .instr .fall := by decide
theorem test_decode_rst_poll : decodeWord 0x04000000 = .instr .rst ∧ decodeWord 0x05000000 = .instr .poll := by decide
theorem test_decode_getdc : decodeWord 0x10000000 = .instr .getdc := by decide
theorem test_decode_setdc : decodeWord 0x1100FFFF = .instr (.setdc 0xFFFF) := by decide
theorem test_decode_setdiv : decodeWord 0x12000001 = .instr (.setdiv 1) ∧ decodeWord 0x12000020 = .instr (.setdiv 32) := by
  decide
theorem test_decode_setrng : decodeWord 0x13000000 = .instr (.setrng .low) ∧ decodeWord 0x13000001 = .instr (.setrng .med) ∧
    decodeWord 0x13000002 = .instr (.setrng .high) := by decide
theorem test_decode_emit : decodeWord 0x20000000 = .instr (.emit .brk) ∧ decodeWord 0x20000001 = .instr (.emit .lock) := by
  decide
theorem test_decode_evt : decodeWord 0x21000001 = .instr (.evt .acquisitionTimeout) ∧
    decodeWord 0x21000002 = .instr (.evt .edgeGlitch) ∧ decodeWord 0x21000003 = .instr (.evt .counterRollover) ∧
    decodeWord 0x21000004 = .instr (.evt .linkSaturation) := by decide
theorem test_encode_words : encode (.adv 125) = 0x0100007D ∧ encode .fall = 0x03000000 ∧ encode (.setdc 1) = 0x11000001 ∧
    encode (.setdiv 15) = 0x1200000F ∧ encode (.setrng .high) = 0x13000002 ∧ encode (.evt .edgeGlitch) = 0x21000002 := by
  decide

/-- Invalid words of V13, by the reason of R99. -/
theorem test_decode_unassigned : decodeWord 0x00000000 = .invalid .unassignedOpcode ∧
    decodeWord 0xFFFFFFFF = .invalid .unassignedOpcode ∧ decodeWord 0x06000000 = .invalid .unassignedOpcode ∧
    decodeWord 0x22000000 = .invalid .unassignedOpcode := by decide
theorem test_decode_must_be_zero : decodeWord 0x02000001 = .invalid .mustBeZero ∧
    decodeWord 0x03800000 = .invalid .mustBeZero ∧ decodeWord 0x12000040 = .invalid .mustBeZero ∧
    decodeWord 0x11010000 = .invalid .mustBeZero := by decide
theorem test_decode_reserved : decodeWord 0x12000000 = .invalid .reservedValue ∧
    decodeWord 0x12000021 = .invalid .reservedValue ∧ decodeWord 0x13000003 = .invalid .reservedValue ∧
    decodeWord 0x21000000 = .invalid .reservedValue ∧ decodeWord 0x21000005 = .invalid .reservedValue := by decide

/-- Least significant byte first (20_memory.md R64). -/
theorem test_bytes_of_adv : decodeBytes [0x7D, 0x00, 0x00, 0x01, 0x00] = some (.adv 125, [0x00]) ∧
    encodeBytes (.adv 125) = [0x7D, 0x00, 0x00, 0x01] := by decide
theorem test_decode_table_word : decodeTableWord 32 0x12000020 = some (.setdiv 32) ∧
    decodeTableWord 32 0x12000000 = none := by decide

/-! ## One step from reset: the word placed is the one that runs -/

theorem test_step_runs_placed_words :
    step (State.reset.withFetchWord 32 0x0100007D) = exec (.adv 125) State.reset ∧
    step (State.reset.withFetchWord 32 0x12000020) = exec (.setdiv 32) State.reset ∧
    step (State.reset.withFetchWord 32 0x20000001) = exec (.emit .lock) State.reset := ⟨rfl, rfl, rfl⟩

/-- A class C word in the stimulus sequence is refused (30_encoding.md R99 (d)). -/
theorem test_step_refuses_getdc_as_stimulus :
    step { State.reset with input := [{ port := .stimulus, word := 0x10000000 }] } = .refused .notAStimulus := rfl

/-! ## Each operation: vectors V1 to V12 -/

theorem test_wrap_safe_diff_over_the_wrap : wrapSafeDiff Config.refcfg 0xFFFFFFF0 0x6D = 125 ∧
    wrapSafeDiff Config.refcfg 1 0 = 0xFFFFFFFF ∧ wrapSafeDiff { Config.refcfg with w := 8 } 0xF0 0x10 = 32 := by decide

/-- A machine in the test configuration with a given time and transmitter. -/
def atTick (t : Nat) (tx : Bool) (el : Nat) : State :=
  { State.resetOf Config.testcfg with tick := t, txActive := tx, txElapsed := el }

/-- V2: the counter wraps silently. -/
theorem test_adv_wraps : execAdv 125 (atTick 0xFFFFFFF0 false 0) = .next (atTick 0x6D false 0) := by rfl
/-- V2: the last tick of a code ends it. -/
theorem test_adv_ends_the_code : execAdv 48 (atTick 0 true 2000) = .next (atTick 48 false 0) := by rfl

/-- Two rising edges seen, armed: the state of V3 before its falling edge. -/
def armedAt (prev rising tick : Nat) : State :=
  { State.resetOf Config.testcfg with tick := tick, rising := rising, prevRising := prev, nrise := 2, armed := true }

/-- V3: `RISE` shifts the latched timestamps. -/
theorem test_rise_shifts : execRise { armedAt 750 875 1000 with armed := false } = .next (armedAt 875 1000 1000) := rfl
/-- V3: the first rising edge only counts. -/
theorem test_rise_counts : execRise (State.resetOf Config.testcfg) =
    .next { State.resetOf Config.testcfg with nrise := 1, armed := true } := rfl

/-- V3: the falling edge makes the sample (125, 60, 1), which the window takes in. -/
theorem test_fall_sample : execFall (armedAt 875 1000 1060) = .next { armedAt 875 1000 1060 with
    armed := false, smpBt := 125, smpPw := 60, smpVal := true, smpValid := true
    win := [125], cnt := 1, sum := 125, fresh := 1, bitcnt := 1
    pub := { ls := .unlocked, dc := DriveConfig.refReset, bt := 125, pw := 60, val := true, valid := true } } := by rfl
/-- V3: a pulse of exactly `T_MID` is a 0. -/
theorem test_fall_threshold : (sampleNow (armedAt 875 1000 1045)).val = false ∧
    (sampleNow (armedAt 875 1000 1046)).val = true := by decide

/-- A window under test. -/
def withWindow (w : List Nat) (fresh : Nat) : State :=
  { State.resetOf Config.testcfg with win := w, cnt := w.length, sum := w.sum, fresh := fresh }

/-- V4: the band's edges. -/
theorem test_glitch_band : Glitch (withWindow [125, 125, 125] 3) 62 ∧ ¬ Glitch (withWindow [125, 125, 125] 3) 63 ∧
    ¬ Glitch (withWindow [125, 125, 125] 3) 187 ∧ Glitch (withWindow [125, 125, 125] 3) 188 ∧
    ¬ Glitch (withWindow [100, 100] 2) 150 ∧ ¬ Glitch (withWindow [] 0) 8125 := by decide
/-- V5: the N-th accepted sample emits the sum; a full window slides. -/
theorem test_est_emits_and_slides : est 125 (withWindow [125, 125, 125] 3) =
      (some 500, { withWindow [125, 125, 125, 125] 0 with feValid := true, feSum := 500 }) ∧
    est 130 (withWindow [125, 125, 125, 125] 0) = (none, withWindow [125, 125, 125, 130] 1) := by
  constructor <;> rfl
/-- V6: the tolerance is inclusive. -/
theorem test_tolerance_edges : InTol Config.refcfg 3920 ∧ ¬ InTol Config.refcfg 3919 ∧ InTol Config.refcfg 4080 ∧
    ¬ InTol Config.refcfg 4081 := by decide
/-- V6: the reported figures. -/
theorem test_reported_figures : measuredKhz Config.refcfg 3919 = 97975 ∧ freqErrorPct Config.refcfg 3800 = -5 := by
  constructor
  · decide
  · norm_num [freqErrorPct, expectedSum, Config.refcfg]

/-- A lock state under test (V7). -/
def lockAt (l : LockState) (g b a : Nat) : State :=
  { State.resetOf Config.testcfg with ls := l, good := g, bad := b, attempts := a }

/-- V7: the M-th good window locks; a bad one while locked only counts. -/
theorem test_ctrl_locks : ctrl 500 (lockAt .converging 1 0 0) = lockAt .locked 0 0 0 ∧
    ctrl 515 (lockAt .locked 0 0 0) = lockAt .locked 0 1 0 := by constructor <;> rfl
/-- V7: a correction step takes the law's divider; with the budget spent it is the BREAK event. -/
theorem test_ctrl_corrects_and_breaks :
    (ctrl 475 (lockAt .unlocked 0 0 0)).dc.div = 15 ∧
    (ctrl 475 (lockAt .unlocked 0 0 0)).out = [.cmd (.setdiv 15)] ∧
    ctrl 475 (lockAt .converging 0 0 2) = { lockAt .unlocked 0 0 0 with out := [.evt .acquisitionTimeout] } := by
  decide +kernel
/-- V8: the least stage below 3 is strengthened; the greatest above 0 is weakened. -/
theorem test_reflaw_fine :
    packDc (runLaw Config.refcfg { DriveConfig.refReset with ds := unpackDs 0x0007 } 3890) = 0x10000B ∧
    packDc (runLaw Config.refcfg { DriveConfig.refReset with ds := unpackDs 0x0020 } 4100) = 0x100010 := by
  decide +kernel
/-- V8: the divider is clamped at both ends. -/
theorem test_reflaw_clamps :
    packDc (runLaw Config.refcfg { DriveConfig.refReset with div := 1 } 100) = 0x010003 ∧
    packDc (runLaw Config.refcfg { DriveConfig.refReset with div := 32 } 8000) = 0x200000 := by
  decide +kernel
/-- V9: the boundary is at the 32nd sample. -/
theorem test_frame_boundary : (frame { State.reset with bitcnt := 30 }).1 = false ∧
    (frame { State.reset with bitcnt := 31 }).1 = true ∧ (frame { State.reset with bitcnt := 31 }).2.bitcnt = 0 := by
  decide
/-- V10: a boundary that finds a code running records `LinkSaturation` before the new code. -/
theorem test_sig_saturates : (sig { atTick 0 true 1280 with ls := .unlocked }).out =
    [.evt .linkSaturation, .emit .brk] ∧ (sig { atTick 0 false 0 with ls := .locked }).out = [.emit .lock] := by decide
/-- V10: the rail follows the codeword. -/
theorem test_sink_levels : sink { atTick 0 true 255 with txCode := .lock } = true ∧
    sink { atTick 0 true 256 with txCode := .lock } = false ∧ sink { atTick 0 true 511 with txCode := .brk } = true ∧
    sink { atTick 0 true 512 with txCode := .brk } = false := by decide
/-- V11: the words of a publication. -/
theorem test_publication_words :
    Snapshot.words ⟨.converging, { DriveConfig.refReset with div := 10 }, 118, 57, true, true⟩ =
      ⟨0x301, 0x000A0000, 0x76, 0x39⟩ := by decide
/-- V11: `POLL` just after reset. -/
theorem test_poll_after_reset : execPoll State.reset = .next { State.reset with polls := [⟨0, 0x00100000, 0, 0⟩] } := by rfl
/-- P6: `RST` records, restores and publishes. -/
theorem test_rst : execRst { lockAt .locked 0 0 0 with tick := 9, handoff := true, out := [.emit .lock] } =
    .next { State.resetOf Config.testcfg with out := [.emit .lock, .reset, .cmd .getdc] } := by rfl

/-- An oscillator setting of V12: strengths 0x0001, divider 16. -/
def oscAt (ds : BitVec 16) (d : BitVec 6) (r : Range) : State :=
  { State.reset with oscDc := { ds := unpackDs ds, div := d, rng := r } }

theorem test_getdc : execGetdc (oscAt 1 16 .high) = .next { oscAt 1 16 .high with capResp := 0x900001 } := by rfl
theorem test_setdc : execSetdc 0 (oscAt 0xFFFF 16 .low) = .next (oscAt 0 16 .low) := by rfl
theorem test_setdiv : execSetdiv 15 (oscAt 1 16 .low) = .next (oscAt 1 15 .low) := by rfl
theorem test_setdiv_refused : execSetdiv 33 State.reset = .refused (.invalidWord .reservedValue) := by rfl
theorem test_setrng : execSetrng .high (oscAt 1 16 .low) = .next (oscAt 1 16 .high) := by rfl
theorem test_emit : execEmit .lock (atTick 0 true 5) = .next { atTick 0 true 0 with
    txCode := .lock, out := [.evt .linkSaturation, .emit .lock] } := by rfl
theorem test_evt : execEvt .edgeGlitch State.reset = .next { State.reset with out := [.evt .edgeGlitch] } := by rfl

/-! ## The textual form (30_encoding.md R102) -/

theorem test_assembly : assembleLine "ADV 125 ; ticks".toList = some [.adv 125] ∧ assembleLine "SETRNG HIGH".toList = some [.setrng .high] := by
  decide +kernel

/-- R102: a digit has its value in the base of the number, and only there. -/
theorem test_digits : number "0x1fF".toList = some 511 ∧ number "1A".toList = none ∧ number "0x1G".toList = none := by
  decide +kernel

/-- R103: `BIT` expands where both operands of `ADV` have 24 bits (log entry 26), else not. -/
theorem test_bit_expansion :
    assembleLine "BIT 60, 125".toList = some [.rise, .adv 60, .fall, .adv 65] ∧
    assembleLine "BIT 30, 16777230".toList = some [.rise, .adv 30, .fall, .adv 16777200] ∧
    assembleLine "BIT 0, 16777216".toList = none ∧ assembleLine "BIT 61, 60".toList = none := by decide +kernel

/-! ## Witnesses: states and operands that meet the hypotheses of each statement

Each is named after its statement; where a statement has several clauses there is one for each, at a boundary value
where the clause has a range. -/

/-- One sample a window, and a law that answers divider 17 for the sum 150 and a stronger stage 0 for the sum 100 at
reset. -/
def wRows : List (DriveConfig × Nat × DriveConfig) :=
  [(DriveConfig.refReset, 150, { DriveConfig.refReset with div := 17 }),
    (DriveConfig.refReset, 100, { DriveConfig.refReset with ds := #v[3, 0, 0, 0, 0, 0, 0, 0] })]
def wcfg : Config := { Config.testcfg with n := 1, law := .table wRows }

theorem wcfg_valid : wcfg.Valid := by constructor <;> decide

theorem wRows_ok : ∀ r ∈ wRows, r.2.2.Valid ∧ OneStep r.1 r.2.2 := by
  simp only [wRows, List.mem_cons, List.not_mem_nil, or_false, forall_eq_or_imp, forall_eq]
  exact ⟨⟨by decide, rfl, .inl rfl⟩, by decide, rfl, .inr ⟨rfl, 0, by decide⟩⟩

theorem wcfg_lawOk : LawOk wcfg := lawOk_of_table rfl wRows_ok

/-- A state of `wcfg` about to complete a sample of the bit time `bt`. -/
def wState (l : LockState) (att bt : Nat) (w : List Nat) (b : Nat) (tx : Bool) : State :=
  { State.resetOf wcfg with
    tick := bt + 50, rising := bt, prevRising := 0, nrise := 2, armed := true
    win := w, cnt := w.length, sum := w.sum
    ls := l, attempts := att, bitcnt := b, txActive := tx
    pub := { (State.resetOf wcfg).pub with ls := l } }

theorem wState_ctrlInv (l : LockState) (att bt : Nat) (w : List Nat) (b : Nat) (tx : Bool) (ha : att ≤ 2)
    (hl : l ≠ .converging → att = 0) : CtrlInv (wState l att bt w b tx) :=
  ⟨(by decide : 0 < 2), (by decide : 0 < 2), ha, fun _ => rfl, fun _ => rfl, hl⟩

/-- It meets the invariants. -/
theorem wState_inv (l : LockState) (att bt : Nat) (w : List Nat) (b : Nat) (tx : Bool) (ha : att ≤ 2)
    (hl : l ≠ .converging → att = 0) (hbt : bt < 2 ^ 31) (hw : w.length ≤ 1) (hm : ∀ t ∈ w, t < 2 ^ 32) (hb : b < 32) :
    Inv (wState l att bt w b tx) where
  cfg_valid := wcfg_valid
  law_ok := wcfg_lawOk
  stimulus_only := by simp [wState, State.resetOf]
  capture := by
    have : (wState l att bt w b tx).cfg.modulus = 2 ^ 32 := rfl
    refine ⟨?_, ?_, ?_, ?_, ?_, ?_, ?_⟩ <;> simp [wState, State.resetOf, wcfg, Config.modulus, Config.testcfg, Config.refcfg] <;> omega
  estimator := ⟨rfl, hw, Nat.zero_le _, (by decide : 0 < 1), rfl, hm, (by decide : 0 < 1 * 2 ^ 32)⟩
  controller := wState_ctrlInv l att bt w b tx ha hl
  drive := ⟨(by decide : DriveConfig.refReset.Valid), rfl⟩
  bitcnt_lt := hb
  transmitter := ⟨fun _ => rfl, (by decide : 0 < 8 * 256)⟩
  pub_eq := rfl
  handoff_seen := by simp [wState, State.resetOf]

/-- The states used below: at reset's lock state, too fast and too slow; converging with the budget spent; about to reject
a sample; and at a boundary with a code running. -/
def wFast : State := wState .unlocked 0 150 [] 0 false
def wSlow : State := wState .unlocked 0 100 [] 0 false
def wSpent : State := wState .converging 2 150 [] 0 false
def wGlitch : State := wState .unlocked 0 300 [125] 0 false
def wBoundary : State := wState .converging 0 125 [] 31 true

theorem wFast_inv : Inv wFast := wState_inv _ _ _ _ _ _ (by decide) (by decide) (by decide) (by decide) (by decide) (by decide)
theorem wSlow_inv : Inv wSlow := wState_inv _ _ _ _ _ _ (by decide) (by decide) (by decide) (by decide) (by decide) (by decide)
theorem wSpent_inv : Inv wSpent := wState_inv _ _ _ _ _ _ (by decide) (by decide) (by decide) (by decide) (by decide) (by decide)
theorem wGlitch_inv : Inv wGlitch := wState_inv _ _ _ _ _ _ (by decide) (by decide) (by decide) (by decide) (by decide) (by decide)
theorem wBoundary_inv : Inv wBoundary := wState_inv _ _ _ _ _ _ (by decide) (by decide) (by decide) (by decide) (by decide) (by decide)

/-- With two samples a window, a state whose next sample does not complete one. -/
def wQuiet : State := { wState .unlocked 0 125 [] 0 false with cfg := { wcfg with n := 2 } }

theorem wQuiet_inv : Inv wQuiet :=
  have h : Inv (wState .unlocked 0 125 [] 0 false) :=
    wState_inv _ _ _ _ _ _ (by decide) (by decide) (by decide) (by decide) (by decide) (by decide)
  { cfg_valid := by constructor <;> decide
    law_ok := lawOk_of_table rfl wRows_ok
    stimulus_only := h.stimulus_only
    capture := ⟨h.capture.1, h.capture.2, h.capture.3, h.capture.4, h.capture.5, h.capture.6, h.capture.7⟩
    estimator := ⟨rfl, (by decide : 0 ≤ 2), Nat.zero_le _, (by decide : 0 < 2), rfl, h.estimator.6,
      (by decide : 0 < 2 * 2 ^ 32)⟩
    controller := ⟨h.controller.1, h.controller.2, h.controller.3, h.controller.4, h.controller.5, h.controller.6⟩
    drive := ⟨h.drive.1, h.drive.2⟩
    bitcnt_lt := h.bitcnt_lt
    transmitter := ⟨h.transmitter.1, h.transmitter.2⟩
    pub_eq := h.pub_eq
    handoff_seen := h.handoff_seen }

/-- What a falling edge makes of a state. -/
def afterFall (s : State) : State := onFalling (edgeNow .falling s) s

theorem witness_DecodingAnEncodedOperationGivesItBack : (Instr.setdiv 1).WellFormed ∧ (Instr.setdiv 32).WellFormed ∧
    (Instr.adv 0xFFFFFF).WellFormed := by decide

theorem witness_EncodingADecodedWordGivesItBack : decodeWord 0x12000020 = .instr (.setdiv 32) := by decide

theorem witness_EveryWordDecodesToOneRowOrIsInvalid :
    (∃ r ∈ opTable, RowMatches r 0x12000020 ∧ RowValueOk r 0x12000020) ∧
    (∀ r ∈ opTable, ¬ (RowMatches r 0x12000021 ∧ RowValueOk r 0x12000021)) := by decide +kernel

/-- Clauses (a) to (d) of R99, and no word under two of them. -/
theorem witness_IllegalAndReservedWordsAreRefused :
    (∀ r ∈ opTable, (0x06000000 : Word).extractLsb' 24 8 ≠ r.bits.extractLsb' 24 8) ∧
    (∃ r ∈ opTable, (0x12000040 : Word).extractLsb' 24 8 = r.bits.extractLsb' 24 8 ∧ ¬ RowMatches r 0x12000040) ∧
    (∃ r ∈ opTable, RowMatches r 0x12000000 ∧ ¬ RowValueOk r 0x12000000) ∧
    (∃ r ∈ opTable, RowMatches r 0x12000021 ∧ ¬ RowValueOk r 0x12000021) ∧
    (∃ r ∈ opTable, RowMatches r 0x13000003 ∧ ¬ RowValueOk r 0x13000003) ∧
    (∃ r ∈ opTable, RowMatches r 0x21000005 ∧ ¬ RowValueOk r 0x21000005) ∧
    (decodeWord 0x20000001 = .instr (.emit .lock) ∧ (Instr.emit .lock).opClass ≠ .stimulus) := by
  refine ⟨?_, ?_, ?_, ?_, ?_, ?_, ?_⟩ <;> decide +kernel

theorem witness_StepRunsTheDecodedOperation :
    (State.reset.withFetchWord 32 0x12000020).input = [{ port := .capability, word := 0x12000020 }] ∧
    decodeWord 0x12000020 = .instr (.setdiv 32) ∧ (Instr.setdiv 32).opClass = .capability ∧ State.reset.input = [] := by
  decide +kernel

theorem witness_EveryOperationCompletes : (Instr.setdiv 32).WellFormed ∧ Instr.fall.opClass = .stimulus ∧
    (State.reset.withFetchWord 32 0x03000000).input = [{ port := .stimulus, word := encode .fall }] := by decide +kernel

theorem witness_AdvPassesTime : (0xFFFFFF : BitVec 24).toNat + (0 : BitVec 24).toNat < 2 ^ 24 ∧
    (∃ t, exec (.adv 0xFFFFFF) State.reset = .next t) ∧ CaptureInv wFast ∧ TxInv wFast :=
  ⟨by decide, ⟨_, rfl⟩, wFast_inv.capture, wFast_inv.transmitter⟩

theorem witness_FallMakesTheSampleAndRunsThePass : State.reset.armed = false ∧
    ({ wFast with nrise := 1 }.armed = true ∧ { wFast with nrise := 1 }.nrise ≠ 2) ∧
    (wFast.armed = true ∧ wFast.nrise = 2) := by decide +kernel

theorem witness_TimestampDifferencesSurviveTheWrap : 2 ^ 32 - 1 < 2 ^ Config.refcfg.w ∧
    ∃ t u v, exec .rise State.reset = .next t ∧ exec (.adv 125) t = .next u ∧ exec .rise u = .next v :=
  ⟨by decide, _, _, _, rfl, rfl, rfl⟩

theorem witness_GlitchTestIsTheBandAroundTheRunningMean : (withWindow [] 0).cnt = 0 ∧
    1 ≤ (withWindow [125] 1).cnt ∧ (1 ≤ (withWindow [0, 0] 2).cnt ∧ (withWindow [0, 0] 2).sum = 0) ∧
    ((withWindow [125, 125, 125] 3).cfg.glitchPct = 50 ∧
      (withWindow [125, 125, 125] 3).sum = 125 * (withWindow [125, 125, 125] 3).cnt) := by decide

theorem withWindow_estInv {w : List Nat} {f : Nat} (h : w.length ≤ 4) (hf : f ≤ w.length) (hf' : f < 4)
    (hm : ∀ t ∈ w, t < 2 ^ 32) : EstInv (withWindow w f) := ⟨rfl, h, hf, hf', rfl, hm, (by decide : 0 < 4 * 2 ^ 32)⟩

/-- A rejected sample, an accepted one that emits nothing (the window full, so that it slides), and the N-th one. -/
theorem witness_EstimatorKeepsTheWindowAndEmitsOncePerN :
    (EstInv (withWindow [125, 125, 125] 3) ∧ Glitch (withWindow [125, 125, 125] 3) 188) ∧
    (EstInv (withWindow [125, 125, 125, 125] 0) ∧ ¬ Glitch (withWindow [125, 125, 125, 125] 0) 130 ∧
      (withWindow [125, 125, 125, 125] 0).fresh + 1 ≠ (withWindow [125, 125, 125, 125] 0).cfg.n) ∧
    (¬ Glitch (withWindow [125, 125, 125] 3) 187 ∧
      (withWindow [125, 125, 125] 3).fresh + 1 = (withWindow [125, 125, 125] 3).cfg.n) :=
  ⟨⟨withWindow_estInv (by decide) (by decide) (by decide) (by decide), by decide⟩,
   ⟨withWindow_estInv (by decide) (by decide) (by decide) (by decide), by decide, by decide⟩, by decide, by decide⟩

theorem witness_ToleranceTestIsABoundOnTheFrequencyError : Config.refcfg.Valid ∧ InTol Config.refcfg 4080 ∧
    ¬ InTol Config.refcfg 4081 := ⟨Config.refcfg_valid, by decide, by decide⟩

theorem witness_MeasuredFrequencyIsRoundedDown : Config.testcfg.Valid := Config.testcfg_valid

/-- One state for each row of R151's table, the counters at their bounds. -/
theorem witness_LockStateTransitionsAreTheTable :
    (wcfg.Valid ∧ InTol wcfg 125 ∧ ¬ InTol wcfg 150) ∧
    (CtrlInv (lockAt .unlocked 0 0 0) ∧ CtrlInv (lockAt .converging 1 0 2) ∧ CtrlInv (lockAt .locked 0 1 0)) ∧
    (InTol Config.testcfg 510 ∧ ¬ InTol Config.testcfg 511 ∧ Config.testcfg.Valid) ∧
    ((lockAt .converging 1 0 2).good + 1 = Config.testcfg.m ∧ (lockAt .converging 1 0 2).attempts = Config.testcfg.maxAttempts ∧
      (lockAt .locked 0 1 0).bad + 1 = Config.testcfg.m ∧ (lockAt .locked 0 1 0).ls = .locked ∧
      (lockAt .converging 1 0 2).ls = .converging) :=
  ⟨⟨wcfg_valid, by decide, by decide⟩,
   ⟨by constructor <;> decide, by constructor <;> decide, by constructor <;> decide⟩,
   ⟨by decide, by decide, Config.testcfg_valid⟩, by decide⟩

theorem witness_ApplyingAStepIssuesTheCommandsAndResetsTheWindow : wFast.oscDc = wFast.dc ∧
    { wFast.dc with div := 17 } ≠ wFast.dc := by decide +kernel

/-- The first correction step, and the last one the budget allows. -/
theorem witness_ACorrectionStepAppliesTheLaw :
    (wFast.cfg.Valid ∧ LawOk wFast.cfg ∧ CtrlInv wFast ∧ DriveInv wFast ∧ ¬ InTol wFast.cfg 150 ∧ wFast.ls = .unlocked) ∧
    (CtrlInv (wState .converging 1 150 [] 0 false) ∧ (wState .converging 1 150 [] 0 false).attempts < wcfg.maxAttempts ∧
      (wState .converging 1 150 [] 0 false).ls = .converging) :=
  ⟨⟨wcfg_valid, wcfg_lawOk, wFast_inv.controller, wFast_inv.drive, by decide +kernel, rfl⟩,
   wState_ctrlInv _ _ _ _ _ _ (by decide) (by decide), by decide +kernel, rfl⟩

/-- Exactly the budget of two windows. -/
theorem witness_BreakComesAfterExactlyTheBudget : wFast.cfg.Valid ∧ CtrlInv wFast ∧ wFast.ls = .unlocked ∧
    (∀ T ∈ [150, 150], ¬ InTol wFast.cfg T) ∧ ¬ InTol wFast.cfg 100 ∧ [150, 150] ≠ ([] : List Nat) ∧
    [150, 150].length = wFast.cfg.maxAttempts :=
  ⟨wcfg_valid, wFast_inv.controller, rfl, by decide +kernel, by decide +kernel, by decide, by decide +kernel⟩

theorem witness_DeadbandMakesNoChangeAtTarget : InTol wFast.cfg 127 ∧ wFast.cfg.Valid ∧ CtrlInv wFast ∧
    wFast.ls = .unlocked := ⟨by decide +kernel, wcfg_valid, wFast_inv.controller, rfl⟩

theorem witness_ControllerStateChangesOnlyAtAnEmission : Inv wFast ∧ Instr.fall.opClass = .stimulus ∧
    exec .fall wFast = .next (afterFall wFast) ∧ (afterFall wFast).ls ≠ wFast.ls ∧ Emits wFast :=
  ⟨wFast_inv, rfl, rfl, by decide +kernel, by decide +kernel⟩

theorem witness_DriveConfigChangesOnlyWhileConverging : Inv wFast ∧ exec .fall wFast = .next (afterFall wFast) ∧
    Instr.fall ≠ .rst ∧ (afterFall wFast).dc ≠ wFast.dc := ⟨wFast_inv, rfl, by decide, by decide +kernel⟩

theorem witness_UnlockedIsReachedOnlyByBreakOrReset : Inv wSpent ∧ exec .fall wSpent = .next (afterFall wSpent) ∧
    wSpent.ls ≠ .unlocked ∧ (afterFall wSpent).ls = .unlocked := ⟨wSpent_inv, rfl, by decide +kernel, by decide +kernel⟩

theorem witness_ReferenceLawMeetsTheConstraints : Config.refcfg.Valid ∧ Config.refcfg.law = .reference :=
  ⟨Config.refcfg_valid, rfl⟩

/-- A counted sample, at the last count of a frame, and an edge that is none. -/
theorem witness_FrameCounterCountsEverySample :
    (exec .fall wBoundary = .next (afterFall wBoundary) ∧ SampleBearing wBoundary ∧
      wBoundary.bitcnt + 1 = wBoundary.cfg.frameBits) ∧
    (exec .fall State.reset = .next State.reset ∧ ¬ SampleBearing State.reset) :=
  ⟨⟨rfl, by decide +kernel, by decide +kernel⟩, rfl, by decide +kernel⟩

theorem witness_OneCodePerBoundarySaysWhetherLocked : Instr.fall.opClass = .stimulus ∧
    exec .fall wBoundary = .next (afterFall wBoundary) ∧ Boundary wBoundary := ⟨rfl, rfl, by decide +kernel⟩

/-- A rejected sample, a spent budget, a boundary that finds a code running, and a correction step of each command. -/
theorem witness_EventsAndCommandsAreRecordedExactlyWhereRaised :
    (Inv wGlitch ∧ exec .fall wGlitch = .next (afterFall wGlitch) ∧ SampleBearing wGlitch ∧
      Glitch wGlitch (sampleNow wGlitch).bt) ∧
    (Inv wSpent ∧ Emits wSpent ∧ ¬ InTol wSpent.cfg (emittedSum wSpent) ∧ wSpent.attempts = wSpent.cfg.maxAttempts) ∧
    (Inv wBoundary ∧ Boundary wBoundary ∧ wBoundary.txActive = true) ∧
    (Inv wFast ∧ exec .fall wFast = .next (afterFall wFast) ∧ CorrectionDue wFast ∧ (lawAnswer wFast).div ≠ wFast.dc.div) ∧
    (Inv wSlow ∧ exec .fall wSlow = .next (afterFall wSlow) ∧ CorrectionDue wSlow ∧ (lawAnswer wSlow).ds ≠ wSlow.dc.ds) :=
  ⟨⟨wGlitch_inv, rfl, by decide +kernel, by decide +kernel⟩,
   ⟨wSpent_inv, by decide +kernel, by decide +kernel, by decide +kernel⟩,
   ⟨wBoundary_inv, by decide +kernel, by decide +kernel⟩,
   ⟨wFast_inv, rfl, by decide +kernel, by decide +kernel⟩, wSlow_inv, rfl, by decide +kernel, by decide +kernel⟩

/-- A rejected sample, and a boundary that finds a code running. -/
theorem witness_FallRecordsInStageOrder :
    (Inv wGlitch ∧ exec .fall wGlitch = .next (afterFall wGlitch) ∧ SampleBearing wGlitch ∧
      Glitch wGlitch (sampleNow wGlitch).bt) ∧
    (Inv wBoundary ∧ exec .fall wBoundary = .next (afterFall wBoundary) ∧ Boundary wBoundary) :=
  ⟨⟨wGlitch_inv, rfl, by decide +kernel, by decide +kernel⟩, wBoundary_inv, rfl, by decide +kernel⟩

/-- The last tick of a code. -/
theorem witness_SinkFollowsTheCodeword : ∃ u, exec (.adv 1) (atTick 0 true 2047) = .next u := ⟨_, rfl⟩

theorem witness_EveryPassPublishesItsOwnState : exec .fall wGlitch = .next (afterFall wGlitch) ∧ SampleBearing wGlitch ∧
    (∃ t, exec .rst wFast = .next t) ∧ exec .fall State.reset = .next State.reset ∧ ¬ SampleBearing State.reset :=
  ⟨rfl, by decide +kernel, ⟨_, rfl⟩, rfl, by decide +kernel⟩

theorem witness_FallLeavesTheRestUnchanged :
    (Inv wFast ∧ exec .fall wFast = .next (afterFall wFast) ∧ ¬ Boundary wFast ∧ Emits wFast) ∧
    (Inv wGlitch ∧ exec .fall wGlitch = .next (afterFall wGlitch) ∧ ¬ Emits wGlitch ∧ Glitch wGlitch (sampleNow wGlitch).bt) :=
  ⟨⟨wFast_inv, rfl, by decide +kernel, by decide +kernel⟩, wGlitch_inv, rfl, by decide +kernel, by decide +kernel⟩

/-- An accepted sample that emits nothing, an emission that leaves `DC`, one that changes it, and a boundary. -/
theorem witness_FallFeedsTheWindowAndTheSignaler :
    (Inv wQuiet ∧ exec .fall wQuiet = .next (afterFall wQuiet) ∧ SampleBearing wQuiet ∧
      ¬ Glitch wQuiet (sampleNow wQuiet).bt ∧ ¬ Emits wQuiet) ∧
    (Inv wBoundary ∧ exec .fall wBoundary = .next (afterFall wBoundary) ∧ Emits wBoundary ∧
      (afterFall wBoundary).dc = wBoundary.dc ∧ Boundary wBoundary) ∧
    (Inv wFast ∧ exec .fall wFast = .next (afterFall wFast) ∧ Emits wFast ∧ (afterFall wFast).dc ≠ wFast.dc) :=
  ⟨⟨wQuiet_inv, rfl, by decide +kernel, by decide +kernel, by decide +kernel⟩,
   ⟨wBoundary_inv, rfl, by decide +kernel, by decide +kernel, by decide +kernel⟩,
   wFast_inv, rfl, by decide +kernel, by decide +kernel⟩

theorem witness_PublicationWordsHoldTheirFields : wFast.pub.bt < 2 ^ 32 ∧ wFast.pub.pw < 2 ^ 32 := by decide +kernel

/-- A machine whose publication says `Locked`. -/
def wLocked : State := wState .locked 0 125 [] 0 false

theorem witness_HandoffIsOneShotAndIrrevocable :
    (exec .poll wLocked = .next { wLocked with polls := [wLocked.pub.words], handoff := true } ∧ wLocked.handoff = false) ∧
    (exec .rise { wLocked with handoff := true } = .next (onRising (edgeNow .rising { wLocked with handoff := true })
      { wLocked with handoff := true })) ∧
    (∃ t, exec .rst wLocked = .next t) := ⟨⟨rfl, rfl⟩, rfl, _, rfl⟩

theorem witness_ReaderNeverDisturbsTheBlock : exec .fall wFast = .next (afterFall wFast) ∧
    exec .poll wLocked = .next { wLocked with polls := [wLocked.pub.words], handoff := true } := ⟨rfl, rfl⟩

theorem witness_InvariantsHoldAtReset : wcfg.Valid ∧ LawOk wcfg := ⟨wcfg_valid, wcfg_lawOk⟩

/-- A running machine that meets the invariants and steps. -/
theorem witness_EveryStepKeepsTheInvariants :
    Inv { wFast with input := [{ port := .stimulus, word := 0x03000000 }] } ∧
    step { wFast with input := [{ port := .stimulus, word := 0x03000000 }] } = .next (afterFall wFast) :=
  ⟨wFast_inv.withInput (by decide), rfl⟩

theorem witness_ConfigurationIsFixedAndHistoriesGrow : exec .fall wBoundary = .next (afterFall wBoundary) := rfl

/-- Both bounds of the divider, and the values next to them. -/
theorem witness_SetdivWritesTheDivider : (1 ≤ (1 : BitVec 6).toNat ∧ (32 : BitVec 6).toNat ≤ 32) ∧
    (0 : BitVec 6).toNat = 0 ∧ 32 < (33 : BitVec 6).toNat := by decide

end Sys2Proof.Tests
end

section
/-! SUPPORT. Laws of placed fields, and the packed DriveConfig and publication words read back
(30_encoding.md R86, R93, R95). -/

namespace Sys2Proof

/-- Bits inside a placed field are bits of the field. -/
theorem extractLsb'_place_inside {n lo a m k : Nat} (v : BitVec k) (hlo : lo ≤ a) (hn : a + m ≤ n) :
    (place n lo v).extractLsb' a m = v.extractLsb' (a - lo) m := by
  apply BitVec.eq_of_getLsbD_eq
  intro i hi
  simp [hi, show a + i < n by omega, show lo ≤ a + i by omega, Nat.sub_add_comm hlo]

/-- A placed field reads back. -/
@[simp] theorem extractLsb'_place_same {n lo k : Nat} (v : BitVec k) (hn : lo + k ≤ n) :
    (place n lo v).extractLsb' lo k = v := by
  rw [extractLsb'_place_inside v le_rfl hn, Nat.sub_self, BitVec.extractLsb'_eq_self]

/-- The bits below a placed field are 0. -/
@[simp] theorem extractLsb'_place_below {n lo a m k : Nat} (v : BitVec k) (h : a + m ≤ lo) :
    (place n lo v).extractLsb' a m = 0 := by
  apply BitVec.eq_of_getLsbD_eq
  intro i hi
  simp [show ¬ lo ≤ a + i by omega]

/-- The bits above a placed field are 0. -/
@[simp] theorem extractLsb'_place_above {n lo a m k : Nat} (v : BitVec k) (h : lo + k ≤ a) :
    (place n lo v).extractLsb' a m = 0 := by
  apply BitVec.eq_of_getLsbD_eq
  intro i hi
  simp [show k ≤ a + i - lo by omega]

/-! ### The packed DriveConfig -/

/-- A field of a packed DriveConfig is read from its three placed fields (R93). -/
theorem packDc_extract (d : DriveConfig) (a m : Nat) :
    (packDc d).extractLsb' a m = (place 24 0 (packDs d.ds)).extractLsb' a m |||
      (place 24 16 d.div).extractLsb' a m ||| (place 24 22 d.rng.code).extractLsb' a m := by
  rw [packDc, BitVec.extractLsb'_or, BitVec.extractLsb'_or]

/-- The low 16 bits of a packed DriveConfig are the packed strengths. -/
theorem packDc_extract_ds (d : DriveConfig) {a m : Nat} (h : a + m ≤ 16) :
    (packDc d).extractLsb' a m = (packDs d.ds).extractLsb' a m := by
  rw [packDc_extract, extractLsb'_place_inside _ a.zero_le (by omega), extractLsb'_place_below _ h,
    extractLsb'_place_below _ (by omega)]
  simp

/-- The divider field of a packed DriveConfig. -/
@[simp] theorem packDc_extract_div (d : DriveConfig) : (packDc d).extractLsb' 16 6 = d.div := by
  simp [packDc_extract]

/-- The range field of a packed DriveConfig. -/
@[simp] theorem packDc_extract_rng (d : DriveConfig) : (packDc d).extractLsb' 22 2 = d.rng.code := by
  simp [packDc_extract]

/-- Unpacking a packed DriveConfig gives it back. -/
@[simp] theorem unpackDc_packDc (d : DriveConfig) : unpackDc (packDc d) = some d := by
  simp [unpackDc, packDc_extract_ds, BitVec.extractLsb'_eq_self]

namespace Machine

/-! ### The publication words -/

/-- The bit of a 1-bit field. -/
@[simp] theorem bit_getElem_zero (b : Bool) : (bit b)[0] = b := by cases b <;> rfl

/-- A field of `PUB0` is read from its three placed fields (R95). -/
theorem Snapshot.words_pub0_extract (p : Snapshot) (a m : Nat) :
    p.words.pub0.extractLsb' a m = (place 32 0 p.ls.code).extractLsb' a m |||
      (place 32 8 (bit p.val)).extractLsb' a m ||| (place 32 9 (bit p.valid)).extractLsb' a m := by
  rw [Snapshot.words, BitVec.extractLsb'_or, BitVec.extractLsb'_or]

/-- `PUB0` holds the LockState in its low bits. -/
theorem Snapshot.words_pub0_ls (p : Snapshot) : p.words.pub0.extractLsb' 0 2 = p.ls.code := by
  simp [words_pub0_extract]

/-- The bits of `PUB0` between the LockState and the sample value are 0. -/
theorem Snapshot.words_pub0_reserved_low (p : Snapshot) : p.words.pub0.extractLsb' 2 6 = 0 := by
  simp [words_pub0_extract]

/-- The bits of `PUB0` above the validity bit are 0. -/
theorem Snapshot.words_pub0_reserved_high (p : Snapshot) : p.words.pub0.extractLsb' 10 22 = 0 := by
  simp [words_pub0_extract]

/-- `PUB0` holds the sample value in bit 8. -/
theorem Snapshot.words_pub0_val (p : Snapshot) : p.words.pub0.getLsbD 8 = p.val := by simp [Snapshot.words]

/-- `PUB0` holds the validity in bit 9. -/
theorem Snapshot.words_pub0_valid (p : Snapshot) : p.words.pub0.getLsbD 9 = p.valid := by simp [Snapshot.words]

end Machine

end Sys2Proof

open Sys2Proof Sys2Proof.Machine

/-- Settles O7: each field of the packed DriveConfig is one of its three placed fields, and the others are 0 there. -/
theorem packedDriveConfigHoldsItsFields : Obligations.PackedDriveConfigHoldsItsFields := by
  refine ⟨fun d => ⟨fun i => ?_, packDc_extract_div d, packDc_extract_rng d, unpackDc_packDc d⟩, by decide⟩
  rw [packDc_extract_ds d (by omega), packDs_extract d.ds i.val i.isLt]

/-- Settles O37: each field of `PUB0` and `PUB1` is a placed one or lies between them, and a time below 2^32 fits its
word. -/
theorem publicationWordsHoldTheirFields : Obligations.PublicationWordsHoldTheirFields := by
  intro p hbt hpw
  exact ⟨p.words_pub0_ls, p.words_pub0_reserved_low, p.words_pub0_val, p.words_pub0_valid, p.words_pub0_reserved_high,
    extractLsb'_place_zero 32 24 (by decide) _, extractLsb'_place_zero_above 32 24 8 _,
    Nat.mod_eq_of_lt hbt, Nat.mod_eq_of_lt hpw⟩

/-- Settles O6: a record's word is the encoding of its operation, evaluated for each code. -/
theorem recordsHaveTheirWordForm : Obligations.RecordsHaveTheirWordForm := by
  refine ⟨?_, by decide, by decide, ?_, ?_, by decide, by decide⟩
  · intro c
    cases c <;> decide
  · intro k
    cases k <;> decide
  · intro c
    refine ⟨rfl, ?_⟩
    cases c <;> rfl
end

section
/-! SUPPORT. The opcode table against the decoder (30_encoding.md R82, R83, R99): the row whose opcode a word carries,
and what the word decodes to under that row's mask and value conditions. -/

namespace Sys2Proof

/-- The mask of a row with a `k`-bit operand: the opcode and the must-be-zero bits (R82). -/
def operandMask (k : Nat) : Word := BitVec.allOnes 32 <<< k

/-- A bit of a word under the mask of a `k`-bit operand. -/
theorem and_operandMask_getLsbD (w : Word) (k i : Nat) :
    (w &&& operandMask k).getLsbD i = (decide (k ≤ i) && w.getLsbD i) := by
  rw [BitVec.getLsbD_and, operandMask, BitVec.getLsbD_shiftLeft, BitVec.getLsbD_allOnes]
  by_cases hi : i < 32
  · simp [hi, show i - k < 32 by omega, Bool.and_comm, ← decide_not]
  · simp [BitVec.getLsbD_of_ge w i (by omega)]

/-- A word agrees with an opcode under the mask of a `k`-bit operand when it has that opcode and the argument bits above
the operand are 0 (R82). -/
theorem and_operandMask_eq_iff (w : Word) (op : BitVec 8) {k : Nat} (hk : k ≤ 24) :
    w &&& operandMask k = place 32 24 op ↔ opField w = op ∧ (argField w).extractLsb' k (24 - k) = 0 := by
  constructor
  · intro h
    have bits (i : Nat) (hi : k ≤ i) : w.getLsbD i = (place 32 24 op).getLsbD i := by
      rw [← h, and_operandMask_getLsbD]
      simp [hi]
    constructor <;> apply BitVec.eq_of_getLsbD_eq <;> intro i hi
    · rw [opField, BitVec.getLsbD_extractLsb', bits (24 + i) (by omega)]
      simp [hi, show 24 + i < 32 by omega]
    · rw [argField, BitVec.getLsbD_extractLsb', BitVec.getLsbD_extractLsb', Nat.zero_add, bits (k + i) (by omega)]
      simp [show ¬ 24 ≤ k + i by omega]
  · rintro ⟨rfl, h⟩
    apply BitVec.eq_of_getLsbD_eq
    intro i hi
    rw [and_operandMask_getLsbD, place_getLsbD, opField, BitVec.getLsbD_extractLsb']
    by_cases h24 : 24 ≤ i
    · simp [hi, hk.trans h24, h24, show i - 24 < 8 by omega, show 24 + (i - 24) = i by omega]
    · by_cases hki : k ≤ i
      · have := congrArg (fun b => b.getLsbD (i - k)) h
        simpa [argField, hi, hki, h24, show i - k < 24 - k by omega, show k + (i - k) = i by omega,
          show i < 24 by omega] using this
      · simp [hki, h24]

/-- The range codes are all 2-bit values but 3 (R92). -/
theorem Range.ofCode_isSome_iff (b : BitVec 2) : (Range.ofCode b).isSome ↔ b.toNat ≠ 3 := by revert b; decide

/-- The cause codes are 1 to 4 (R98). -/
theorem ErrorKind.ofCode_isSome_iff (b : BitVec 8) : (ErrorKind.ofCode b).isSome ↔ 1 ≤ b.toNat ∧ b.toNat ≤ 4 := by
  simp only [ErrorKind.ofCode]
  split_ifs <;> simp_all
  bv_omega

end Sys2Proof

namespace Sys2Proof.Machine

/-! ### The rows of the opcode table -/

/-- The opcode of a row. -/
def rowOpcode (r : OpRow) : BitVec 8 := r.bits.extractLsb' 24 8

/-- No two rows have the same opcode (R83). -/
theorem row_eq_of_rowOpcode_eq : ∀ r ∈ opTable, ∀ r' ∈ opTable, rowOpcode r = rowOpcode r' → r = r' := by decide

/-- A word that matches a row has its opcode. -/
theorem opField_of_rowMatches {r : OpRow} (hr : r ∈ opTable) {w : Word} (h : RowMatches r w) :
    opField w = rowOpcode r := by
  have full : ∀ r ∈ opTable, r.mask.extractLsb' 24 8 = BitVec.allOnes 8 := by decide
  rw [rowOpcode, ← h, BitVec.extractLsb'_and, full r hr, BitVec.and_allOnes, opField]

/-- What a word with a row's opcode decodes to: the row's operation under its mask and value conditions, and `invalid`
for the condition it misses (R82, R99 (b), (c)). -/
structure RowDecodes (r : OpRow) (w : Word) : Prop where
  valid : RowMatches r w → RowValueOk r w →
    ∃ i, decodeWord w = .instr i ∧ i.mnemonic = r.mnemonic ∧ i.opClass = r.opClass
  reserved : RowMatches r w → ¬ RowValueOk r w → decodeWord w = .invalid .reservedValue
  mustBeZero : ¬ RowMatches r w → decodeWord w = .invalid .mustBeZero

/-- A row whose mask leaves a `k`-bit operand free, below its opcode and its must-be-zero bits. -/
abbrev HasOperand (r : OpRow) (k : Nat) : Prop :=
  k ≤ 24 ∧ r.bits = place 32 24 (rowOpcode r) ∧ r.mask = operandMask k

/-- A word with the opcode of a row matches it when the argument bits above the operand are 0. -/
theorem rowMatches_iff {r : OpRow} {k : Nat} (hr : HasOperand r k) {w : Word} (hop : opField w = rowOpcode r) :
    RowMatches r w ↔ (argField w).extractLsb' k (24 - k) = 0 := by
  obtain ⟨hk, hbits, hmask⟩ := hr
  rw [RowMatches, hmask, hbits, and_operandMask_eq_iff w _ hk]
  simp [hop]

/-- A row's decoding, from a decoder that answers `v` where the argument bits above the operand are 0 and else that a
must-be-zero bit is set: `v` is to be the row's operation or a reserved value, by the row's value condition. -/
theorem rowDecodes_of_operand {r : OpRow} {k : Nat} (hr : HasOperand r k) {w : Word} (hop : opField w = rowOpcode r)
    {v : Decoded} (hdec : decodeWord w = if (argField w).extractLsb' k (24 - k) = 0 then v else .invalid .mustBeZero)
    (hok : RowValueOk r w → ∃ i, v = .instr i ∧ i.mnemonic = r.mnemonic ∧ i.opClass = r.opClass)
    (hbad : ¬ RowValueOk r w → v = .invalid .reservedValue) : RowDecodes r w := by
  simp only [← rowMatches_iff hr hop] at hdec
  constructor
  · intro h hv
    rw [hdec, if_pos h]
    exact hok hv
  · intro h hv
    rw [hdec, if_pos h]
    exact hbad hv
  · intro h
    rw [hdec, if_neg h]

/-- A row that has no value condition, being none of `SETDIV`, `SETRNG` and `EVT`, decodes to its one operation. -/
theorem rowDecodes_of_no_value_condition {r : OpRow} {k : Nat} (hr : HasOperand r k)
    (hv : r.mnemonic ≠ "SETDIV" ∧ r.mnemonic ≠ "SETRNG" ∧ r.mnemonic ≠ "EVT") {w : Word}
    (hop : opField w = rowOpcode r) {i : Instr} (hm : i.mnemonic = r.mnemonic) (hc : i.opClass = r.opClass)
    (hdec : decodeWord w = if (argField w).extractLsb' k (24 - k) = 0 then .instr i else .invalid .mustBeZero) :
    RowDecodes r w := by
  obtain ⟨hdiv, hrng, hevt⟩ := hv
  have hok : RowValueOk r w := ⟨fun h => absurd h hdiv, fun h => absurd h hrng, fun h => absurd h hevt⟩
  exact rowDecodes_of_operand hr hop hdec (fun _ => ⟨i, rfl, hm, hc⟩) (fun h => absurd hok h)

/-- A row without an operand. -/
theorem rowDecodes_of_noArg {r : OpRow} (hr : HasOperand r 0)
    (hv : r.mnemonic ≠ "SETDIV" ∧ r.mnemonic ≠ "SETRNG" ∧ r.mnemonic ≠ "EVT") {w : Word}
    (hop : opField w = rowOpcode r) {i : Instr} (hm : i.mnemonic = r.mnemonic) (hc : i.opClass = r.opClass)
    (hdec : decodeFields (rowOpcode r) = decodeNoArg i) : RowDecodes r w := by
  refine rowDecodes_of_no_value_condition hr hv hop hm hc ?_
  rw [decodeWord, hop, hdec, decodeNoArg, BitVec.extractLsb'_eq_self]

/-- The `ADV` row: every argument is an operand (R84). -/
theorem rowDecodes_adv {w : Word} (hop : opField w = rowOpcode opTable[0]) : RowDecodes opTable[0] w := by
  refine rowDecodes_of_no_value_condition (k := 24) (i := .adv (argField w)) (by decide) (by decide) hop rfl rfl ?_
  rw [decodeWord, hop]
  exact (if_pos BitVec.of_length_zero).symm

/-- The `SETDC` row (R86). -/
theorem rowDecodes_setdc {w : Word} (hop : opField w = rowOpcode opTable[6]) : RowDecodes opTable[6] w := by
  refine rowDecodes_of_no_value_condition (k := 16) (i := .setdc ((argField w).extractLsb' 0 16)) (by decide) (by decide)
    hop rfl rfl ?_
  rw [decodeWord, hop]
  rfl

/-- The `EMIT` row (R97). -/
theorem rowDecodes_emit {w : Word} (hop : opField w = rowOpcode opTable[9]) : RowDecodes opTable[9] w := by
  refine rowDecodes_of_no_value_condition (k := 1) (i := .emit (StatusCode.ofCode ((argField w).extractLsb' 0 1)))
    (by decide) (by decide) hop rfl rfl ?_
  rw [decodeWord, hop]
  rfl

/-- The `SETDIV` row: dividers 1 to 32 (R87). -/
theorem rowDecodes_setdiv {w : Word} (hop : opField w = rowOpcode opTable[7]) : RowDecodes opTable[7] w := by
  have hdec : decodeWord w = decodeSetdiv (argField w) := by rw [decodeWord, hop]; rfl
  have hval : RowValueOk opTable[7] w ↔
      1 ≤ ((argField w).extractLsb' 0 6).toNat ∧ ((argField w).extractLsb' 0 6).toNat ≤ 32 := by
    rw [argField, BitVec.extractLsb'_extractLsb'_of_le (by decide)]
    simp [RowValueOk, opTable]
  exact rowDecodes_of_operand (k := 6) (by decide) hop (hdec.trans (ite_not ..))
    (fun h => ⟨_, if_pos (hval.mp h), rfl, rfl⟩) (fun h => if_neg (hval.not.mp h))

/-- The `SETRNG` row: range codes 0 to 2 (R88). -/
theorem rowDecodes_setrng {w : Word} (hop : opField w = rowOpcode opTable[8]) : RowDecodes opTable[8] w := by
  have hdec : decodeWord w = decodeSetrng (argField w) := by rw [decodeWord, hop]; rfl
  have hval : RowValueOk opTable[8] w ↔ (Range.ofCode ((argField w).extractLsb' 0 2)).isSome := by
    rw [Range.ofCode_isSome_iff, argField, BitVec.extractLsb'_extractLsb'_of_le (by decide)]
    simp [RowValueOk, opTable]
  refine rowDecodes_of_operand (k := 2) (by decide) hop (hdec.trans (ite_not ..)) (fun h => ?_) (fun h => ?_)
  · obtain ⟨r, hr⟩ := Option.isSome_iff_exists.mp (hval.mp h)
    exact ⟨.setrng r, by rw [hr], rfl, rfl⟩
  · rw [Option.not_isSome_iff_eq_none.mp (hval.not.mp h)]

/-- The `EVT` row: cause codes 1 to 4 (R98). -/
theorem rowDecodes_evt {w : Word} (hop : opField w = rowOpcode opTable[10]) : RowDecodes opTable[10] w := by
  have hdec : decodeWord w = decodeEvt (argField w) := by rw [decodeWord, hop]; rfl
  have hval : RowValueOk opTable[10] w ↔ (ErrorKind.ofCode ((argField w).extractLsb' 0 8)).isSome := by
    rw [ErrorKind.ofCode_isSome_iff, argField, BitVec.extractLsb'_extractLsb'_of_le (by decide)]
    simp [RowValueOk, opTable]
  refine rowDecodes_of_operand (k := 8) (by decide) hop (hdec.trans (ite_not ..)) (fun h => ?_) (fun h => ?_)
  · obtain ⟨c, hc⟩ := Option.isSome_iff_exists.mp (hval.mp h)
    exact ⟨.evt c, by rw [hc], rfl, rfl⟩
  · rw [Option.not_isSome_iff_eq_none.mp (hval.not.mp h)]

/-- A word with the opcode of a row decodes as that row says. -/
theorem rowDecodes_of_mem {r : OpRow} (hr : r ∈ opTable) {w : Word} (hop : opField w = rowOpcode r) : RowDecodes r w := by
  simp only [opTable, List.mem_cons, List.not_mem_nil, or_false] at hr
  rcases hr with rfl | rfl | rfl | rfl | rfl | rfl | rfl | rfl | rfl | rfl | rfl
  · exact rowDecodes_adv hop
  · exact rowDecodes_of_noArg (i := .rise) (by decide) (by decide) hop rfl rfl rfl
  · exact rowDecodes_of_noArg (i := .fall) (by decide) (by decide) hop rfl rfl rfl
  · exact rowDecodes_of_noArg (i := .rst) (by decide) (by decide) hop rfl rfl rfl
  · exact rowDecodes_of_noArg (i := .poll) (by decide) (by decide) hop rfl rfl rfl
  · exact rowDecodes_of_noArg (i := .getdc) (by decide) (by decide) hop rfl rfl rfl
  · exact rowDecodes_setdc hop
  · exact rowDecodes_setdiv hop
  · exact rowDecodes_setrng hop
  · exact rowDecodes_emit hop
  · exact rowDecodes_evt hop

/-- A word whose opcode is that of no row decodes to `invalid` (R99 (a)). -/
theorem decodeWord_of_unassigned {w : Word} (h : ∀ r ∈ opTable, opField w ≠ rowOpcode r) :
    decodeWord w = .invalid .unassignedOpcode := by
  simp only [opTable, rowOpcode, BitVec.ofNat_eq_ofNat, BitVec.reduceExtractLsb', List.mem_cons, List.not_mem_nil,
    or_false, forall_eq_or_imp, forall_eq, ne_eq] at h
  simp [decodeWord, decodeFields, h]

/-! ### A stimulus word that does not run -/

/-- A step refuses an `invalid` word with its reason (R99 (a) to (c)). -/
theorem step_of_invalid {s : State} {x : Issue} {rest : List Issue} {e : DecodeError} (hs : s.input = x :: rest)
    (h : decodeWord x.word = .invalid e) : step s = .refused (.invalidWord e) := by
  simp [step, hs, admission, h]

/-- A step refuses an operation issued at a port that is not of its class (R99 (d)). -/
theorem step_of_wrongPort {s : State} {x : Issue} {rest : List Issue} {i : Instr} (hs : s.input = x :: rest)
    (h : decodeWord x.word = .instr i) (hp : i.opClass ≠ x.port) : step s = .refused (wrongPort x.port) := by
  simp [step, hs, admission, h, hp]

end Sys2Proof.Machine

open Sys2Proof Sys2Proof.Machine

/-- Settles O3: the rows have distinct opcodes, and the row with the word's opcode, where there is one, decides between
its operation and `invalid`. -/
theorem everyWordDecodesToOneRowOrIsInvalid : Obligations.EveryWordDecodesToOneRowOrIsInvalid := by
  intro w
  refine ⟨fun r hr hm hv => ?_, fun r hr r' hr' hm hm' => ?_, fun hnone => ?_⟩
  · exact (rowDecodes_of_mem hr (opField_of_rowMatches hr hm)).valid hm hv
  · apply row_eq_of_rowOpcode_eq r hr r' hr'
    rw [← opField_of_rowMatches hr hm, opField_of_rowMatches hr' hm']
  · by_cases hop : ∃ r ∈ opTable, opField w = rowOpcode r
    · obtain ⟨r, hr, hop⟩ := hop
      have hdec := rowDecodes_of_mem hr hop
      by_cases hm : RowMatches r w
      · exact ⟨_, hdec.reserved hm fun hv => hnone r hr ⟨hm, hv⟩⟩
      · exact ⟨_, hdec.mustBeZero hm⟩
    · push Not at hop
      exact ⟨_, decodeWord_of_unassigned hop⟩

/-- Settles O4: clauses (a) to (c) by what the word decodes to under the row of its opcode, (d) by its class. -/
theorem illegalAndReservedWordsAreRefused : Obligations.IllegalAndReservedWordsAreRefused := by
  intro s w rest hs
  refine ⟨fun hop => ?_, fun r hr hop hm => ?_, fun r hr hm hv => ?_, fun i hi hc => ?_⟩
  · exact step_of_invalid hs (decodeWord_of_unassigned hop)
  · exact step_of_invalid hs ((rowDecodes_of_mem hr hop).mustBeZero hm)
  · exact step_of_invalid hs ((rowDecodes_of_mem hr (opField_of_rowMatches hr hm)).reserved hm hv)
  · exact step_of_wrongPort hs hi hc
end

section
/-! SUPPORT. What `ADV`, `RISE` and `FALL` do to the machine, the transmitter's share of time for each state of it, and
the laws of timestamp differences (40_edge_capture.md sections 1 to 4, 44_power_line_signaler.md R194). -/

namespace Sys2Proof.Machine

/-! ### The operations -/

/-- `ADV n` advances the counter, then the transmitter (R112). -/
theorem exec_adv (n : BitVec 24) (s : State) : exec (.adv n) s = .next (txAdv n.toNat (tickAdv n.toNat s)) := rfl

/-- `RISE` as one update (R113). -/
theorem exec_rise (s : State) : exec .rise s =
    .next { s with prevRising := s.rising, rising := s.tick, nrise := countRise s.nrise, armed := true } := rfl

/-- Disarming an unarmed machine changes nothing. -/
theorem disarm_of_unarmed {s : State} (h : s.armed = false) : { s with armed := false } = s := by rw [← h]

/-! ### The transmitter's share of time -/

/-- Time does nothing to an idle transmitter. -/
theorem txAdv_of_idle {s : State} (h : s.txActive = false) (n : Nat) : txAdv n s = s := by
  simp [txAdv, h]

/-- A running transmission ends when its elapsed ticks reach the length of the code. -/
theorem txAdv_of_sent {s : State} {n : Nat} (h : s.txActive = true) (hs : CodeSent s.cfg (s.txElapsed + n)) :
    txAdv n s = { s with txActive := false, txElapsed := 0 } := by
  rw [txAdv, if_pos h, if_pos hs]

/-- Until then it runs on. -/
theorem txAdv_of_not_sent {s : State} {n : Nat} (h : s.txActive = true) (hs : ¬ CodeSent s.cfg (s.txElapsed + n)) :
    txAdv n s = { s with txElapsed := s.txElapsed + n } := by
  rw [txAdv, if_pos h, if_neg hs]

/-- The transmitter's share of time as one update (R194). -/
theorem txAdv_eq (n : Nat) (s : State) : txAdv n s = { s with
    txActive := s.txActive && decide (s.txElapsed + n < s.cfg.txTotal)
    txElapsed :=
      if s.txActive = true then if s.txElapsed + n < s.cfg.txTotal then s.txElapsed + n else 0
      else s.txElapsed } := by
  cases h : s.txActive with
  | false =>
    rw [txAdv_of_idle h]
    cases s
    simp_all
  | true =>
    by_cases hs : CodeSent s.cfg (s.txElapsed + n)
    · simp [txAdv_of_sent h hs, Nat.not_lt.mpr hs]
    · simp [txAdv_of_not_sent h hs, Nat.lt_of_not_le hs, ← h]

/-- Passing time twice over the transmitter is passing the sum once: what ends within the first share has ended, and is
not started again by the second. -/
theorem txAdv_txAdv (a b : Nat) (s : State) : txAdv b (txAdv a s) = txAdv (a + b) s := by
  cases h : s.txActive with
  | false => simp only [txAdv_of_idle h]
  | true =>
    by_cases ha : CodeSent s.cfg (s.txElapsed + a)
    · have hab : CodeSent s.cfg (s.txElapsed + (a + b)) := by omega
      rw [txAdv_of_sent h ha, txAdv_of_sent h hab, txAdv_of_idle rfl]
    · rw [txAdv_of_not_sent h ha]
      simp only [txAdv, h, if_true, Nat.add_assoc]

/-- No time leaves the transmitter as it is. -/
theorem txAdv_zero {s : State} (h : TxInv s) : txAdv 0 s = s := by
  cases hs : s.txActive with
  | false => exact txAdv_of_idle hs 0
  | true => exact txAdv_of_not_sent hs (Nat.not_le.mpr h.elapsed_lt)

/-! ### The tick counter -/

/-- Passing time twice over the counter is passing the sum once. -/
theorem tickAdv_tickAdv (a b : Nat) (s : State) : tickAdv b (tickAdv a s) = tickAdv (a + b) s := by
  simp [tickAdv, Nat.add_assoc]

/-- No time leaves the counter as it is. -/
theorem tickAdv_zero {s : State} (h : CaptureInv s) : tickAdv 0 s = s := by
  simp [tickAdv, Nat.mod_eq_of_lt h.tick_lt]

/-- The counter and the transmitter take their shares of time independently. -/
theorem tickAdv_txAdv (m n : Nat) (s : State) : tickAdv m (txAdv n s) = txAdv n (tickAdv m s) := by
  rw [txAdv_eq, txAdv_eq]
  rfl

/-! ### Timestamp differences -/

/-- The timestamp difference as an integer remainder (R110). -/
theorem cast_wrapSafeDiff (c : Config) (a b : Nat) :
    ((wrapSafeDiff c a b : Nat) : Int) = ((b : Int) - (a : Int)) % (c.modulus : Int) :=
  Int.toNat_of_nonneg (Int.emod_nonneg _ (mod_cast c.modulus_pos.ne'))

/-- From `a` to the counter `d` ticks later the difference is d modulo 2^W (R111). -/
theorem wrapSafeDiff_add (c : Config) (a d : Nat) : wrapSafeDiff c a ((a + d) % c.modulus) = d % c.modulus := by
  zify
  rw [cast_wrapSafeDiff, Int.natCast_mod, Int.emod_sub_emod, Nat.cast_add, add_sub_cancel_left]

end Sys2Proof.Machine

open Sys2Proof Sys2Proof.Machine

/-- Settles O10: the counter and the transmitter take their shares of time independently, and each share adds up. -/
theorem advPassesTime : Obligations.AdvPassesTime := by
  refine ⟨fun n s => ?_, fun a b s t hab ht => ?_, fun s hc ht => ?_⟩
  · rw [exec_adv, txAdv_eq]
    rfl
  · rw [exec_adv, Host.Outcome.next.injEq] at ht
    subst ht
    rw [exec_adv, exec_adv, tickAdv_txAdv, tickAdv_tickAdv, txAdv_txAdv, BitVec.toNat_add_of_lt hab]
  · rw [exec_adv, show (0 : BitVec 24).toNat = 0 from rfl, tickAdv_zero hc, txAdv_zero ht]

/-- Settles O11: `RISE` is this one update. -/
theorem riseLatchesTheTimestamp : Obligations.RiseLatchesTheTimestamp :=
  fun s => ⟨countRise s.nrise, rfl, exec_rise s⟩

/-- Settles O12: the falling edges that complete no sample disarm, which is nothing for an unarmed one. -/
theorem fallMakesTheSampleAndRunsThePass : Obligations.FallMakesTheSampleAndRunsThePass := by
  intro s
  refine ⟨fun h => ?_, fun _ hn => ?_, fun h hn => ?_⟩
  · rw [fall_of_no_sample (by simp [h]), disarm_of_unarmed h]
  · exact fall_of_no_sample fun hs => hn hs.2
  · exact fall_of_sample ⟨h, hn⟩

/-- Settles O13: the counter is read modulo 2^W, and two rising edges `ADV n` apart latch it n ticks apart. -/
theorem timestampDifferencesSurviveTheWrap : Obligations.TimestampDifferencesSurviveTheWrap := by
  refine ⟨fun c a b => ?_, fun c a d => ?_, fun s t u v n ht hu hv => ?_⟩
  · rw [cast_wrapSafeDiff, Config.modulus, Nat.cast_pow, Nat.cast_ofNat]
  · exact ⟨wrapSafeDiff_add c a d, fun hd => (wrapSafeDiff_add c a d).trans (Nat.mod_eq_of_lt hd)⟩
  · rw [exec_rise, Host.Outcome.next.injEq] at ht hv
    rw [exec_adv, Host.Outcome.next.injEq] at hu
    subst ht hu hv
    simpa [Config.modulus] using wrapSafeDiff_add s.cfg s.tick n.toNat
end

section
/-! SUPPORT. The estimator's comparisons as statements about quotients, its emission by cases, and the length of an
emitted window (41_frequency_estimator.md sections 2 to 4). -/

namespace Sys2Proof

/-- A valid configuration expects a positive window sum (R136). -/
theorem Config.Valid.expectedSum_pos {c : Config} (h : c.Valid) : 0 < Machine.expectedSum c :=
  Nat.mul_pos h.n_pos h.e_range.1

namespace Machine

/-! ### The glitch test -/

/-- The distance of two whole numbers, read as a rational. -/
theorem cast_natAbs_sub (a b : Nat) : ((((a : Int) - (b : Int)).natAbs : Nat) : Rat) = |(a : Rat) - b| := by
  rw [Nat.cast_natAbs]
  push_cast
  rfl

/-- The deviation from the running mean, cross-multiplied by `CNT` (R132). -/
theorem abs_sub_mean {cnt : Nat} (h : 1 ≤ cnt) (bt sum : Nat) :
    |(bt : Rat) - (sum : Rat) / cnt| = |(bt : Rat) * cnt - sum| / cnt := by
  have hc : (0 : Rat) < cnt := by exact_mod_cast h
  rw [sub_div' hc.ne', abs_div, abs_of_pos hc]

/-- With a window that is not empty only the comparison is left of the test. -/
theorem glitch_iff_of_nonempty {s : State} (h : 1 ≤ s.cnt) (bt : Nat) :
    Glitch s bt ↔ s.cfg.glitchPct * s.sum < ((bt * s.cnt : Nat) - (s.sum : Int)).natAbs * 100 := and_iff_right h

/-- The test as a comparison with the running mean (R132). -/
theorem glitch_iff_mean {s : State} (h : 1 ≤ s.cnt) (bt : Nat) : Glitch s bt ↔
    ((s.cfg.glitchPct : Rat) / 100) * ((s.sum : Rat) / s.cnt) < |(bt : Rat) - (s.sum : Rat) / s.cnt| := by
  have hc : (0 : Rat) < s.cnt := by exact_mod_cast h
  have hcross : Glitch s bt ↔ (s.cfg.glitchPct : Rat) * s.sum < |(bt : Rat) * s.cnt - s.sum| * 100 := by
    rw [glitch_iff_of_nonempty h, ← Nat.cast_lt (α := Rat), Nat.cast_mul, Nat.cast_mul, cast_natAbs_sub, Nat.cast_mul,
      Nat.cast_ofNat]
  rw [hcross, abs_sub_mean h, div_mul_div_comm, div_lt_div_iff₀ (by positivity) hc, ← mul_assoc, mul_lt_mul_iff_left₀ hc]


/-- With a whole number of ticks as the running mean the test compares whole numbers. -/
theorem glitch_iff_of_whole_mean {s : State} {m : Nat} (h : 1 ≤ s.cnt) (hm : s.sum = m * s.cnt) (bt : Nat) :
    Glitch s bt ↔ s.cfg.glitchPct * m < ((bt : Int) - m).natAbs * 100 := by
  have hdev : (((bt * s.cnt : Nat) : Int) - (s.sum : Int)).natAbs = ((bt : Int) - m).natAbs * s.cnt := by
    rw [hm, Nat.cast_mul, Nat.cast_mul, ← Int.sub_mul, Int.natAbs_mul, Int.natAbs_natCast]
  rw [glitch_iff_of_nonempty h, hdev, hm, ← Nat.mul_assoc, Nat.mul_right_comm _ s.cnt 100,
    Nat.mul_lt_mul_right h]

/-! ### The emission -/

/-- The N-th newly accepted sample hands the window's sum on (R133). -/
theorem emission_of_fresh_eq {s : State} (h : s.fresh = s.cfg.n) :
    emission s = (some s.sum, { s with fresh := 0, feValid := true, feSum := s.sum }) := if_pos h

/-- No other sample does. -/
theorem emission_of_fresh_ne {s : State} (h : s.fresh ≠ s.cfg.n) : emission s = (none, s) := if_neg h

/-- The N-th newly accepted sample fills the window: `FRESH` counts entries of it (10_state.md I2). -/
theorem windowWith_length_of_fresh {s : State} (h : EstInv s) (hn : s.fresh + 1 = s.cfg.n) (bt : Nat) :
    (windowWith s bt).length = s.cfg.n := by
  have hle := h.cnt_le
  have hfresh := h.fresh_le
  rw [(windowWith_length_sum h bt).1]
  split <;> omega

/-! ### The frequency error -/

/-- The frequency error over one denominator (R139). -/
theorem freqErrorPct_eq {c : Config} (h : 0 < expectedSum c) (S : Nat) :
    freqErrorPct c S = 100 * ((S : Rat) - expectedSum c) / expectedSum c := by
  have he : (expectedSum c : Rat) ≠ 0 := by exact_mod_cast h.ne'
  rw [freqErrorPct, div_sub_one he, div_mul_eq_mul_div, mul_comm]

/-- The frequency error is 0 at the expected sum alone (R139). -/
theorem freqErrorPct_eq_zero_iff {c : Config} (h : 0 < expectedSum c) (S : Nat) :
    freqErrorPct c S = 0 ↔ S = expectedSum c := by
  have he : (expectedSum c : Rat) ≠ 0 := by exact_mod_cast h.ne'
  rw [freqErrorPct_eq h, div_eq_zero_iff, or_iff_left he, mul_eq_zero_iff_left (by norm_num), sub_eq_zero, Nat.cast_inj]

/-- The tolerance test as a bound on the magnitude of the frequency error (R136). -/
theorem inTol_iff_abs_freqErrorPct {c : Config} (h : 0 < expectedSum c) (S : Nat) :
    InTol c S ↔ |freqErrorPct c S| ≤ c.tolPct := by
  have he : (0 : Rat) < expectedSum c := by exact_mod_cast h
  rw [freqErrorPct_eq h, abs_div, abs_of_pos he, div_le_iff₀ he, abs_mul, abs_of_pos (by norm_num), mul_comm,
    InTol, ← Nat.cast_le (α := Rat), Nat.cast_mul, Nat.cast_mul, cast_natAbs_sub, Nat.cast_ofNat]

/-- The measured frequency is the floor of the exact quotient (R138). -/
theorem measuredKhz_eq_floor (c : Config) (S : Nat) :
    measuredKhz c S = ⌊(c.targetKhz : Rat) * S / ((c.n : Rat) * c.e)⌋₊ := by
  rw [measuredKhz, expectedSum, ← Nat.floor_div_eq_div (K := Rat)]
  push_cast
  rfl

end Machine
end Sys2Proof

open Sys2Proof Sys2Proof.Machine

/-- Settles O14: the test is the deviation from the mean cross-multiplied, and a whole mean, 0 or 125, cancels `CNT`. -/
theorem glitchTestIsTheBandAroundTheRunningMean : Obligations.GlitchTestIsTheBandAroundTheRunningMean := by
  intro s bt
  refine ⟨fun hempty hg => ?_, fun h => glitch_iff_mean h bt, fun h hsum => ?_, fun h hpct hsum => ?_⟩
  · exact absurd hg.1 (by omega)
  · rw [glitch_iff_of_whole_mean (m := 0) h (by omega)]
    omega
  · rw [glitch_iff_of_whole_mean h hsum, hpct]
    omega

/-- Settles O15: after room is made and the bit time appended the registers describe the new window, and `FRESH` alone
decides whether it is emitted. -/
theorem estimatorKeepsTheWindowAndEmitsOncePerN : Obligations.EstimatorKeepsTheWindowAndEmitsOncePerN := by
  intro s bt h
  refine ⟨fun hg => est_of_glitch hg, fun hg hn => ?_, fun hg hn => ⟨windowWith_length_of_fresh h hn bt, ?_⟩⟩
  · rw [est_of_not_glitch hg, appendSample_slide h, emission_of_fresh_ne hn]
  · rw [est_of_not_glitch hg, appendSample_slide h, emission_of_fresh_eq hn, windowWith_length_of_fresh h hn]

/-- Settles O16: a valid configuration's expected sum is positive, so the test may be divided by it; the two named
configurations' bounds are whole-number arithmetic. -/
theorem toleranceTestIsABoundOnTheFrequencyError : Obligations.ToleranceTestIsABoundOnTheFrequencyError := by
  refine ⟨fun c S hc => ?_, fun S => ⟨?_, ?_⟩, ?_, ?_⟩
  · have he := hc.expectedSum_pos
    exact ⟨freqErrorPct_eq he S, freqErrorPct_eq_zero_iff he S, inTol_iff_abs_freqErrorPct he S⟩
  · simp only [InTol, expectedSum, Config.refcfg]
    omega
  · simp only [InTol, expectedSum, Config.testcfg, Config.refcfg]
    omega
  · norm_num [freqErrorPct, expectedSum, Config.refcfg]
  · norm_num [freqErrorPct, expectedSum, Config.refcfg]

/-- Settles O17: `measured_khz` is the floor of the exact quotient, which is not negative. -/
theorem measuredFrequencyIsRoundedDown : Obligations.MeasuredFrequencyIsRoundedDown := by
  refine ⟨fun c S _ => ?_, by decide, by decide, by decide⟩
  rw [measuredKhz_eq_floor]
  exact ⟨Nat.floor_le (by positivity), Nat.lt_floor_add_one _⟩
end

section
/-! SUPPORT. CTRL by the rows of its transition table, the commands of a correction step as one update, and windows at
the target (42_oscillator_controller.md sections 1 to 3). -/

namespace Sys2Proof.Machine

/-! ### The rows of the table -/

/-- While `Locked` only demotion is decided (R158). -/
theorem ctrl_of_locked {s : State} (h : s.ls = .locked) (S : Nat) : ctrl S s = ctrlLocked S s := by simp only [ctrl, h]

/-- While `Converging` the window is judged at once (R152). -/
theorem ctrl_of_converging {s : State} (h : s.ls = .converging) (S : Nat) : ctrl S s = ctrlConverging S s := by
  simp only [ctrl, h]

/-- While `Unlocked` the window is judged as a `Converging` one with the counters cleared (R153). -/
theorem ctrl_of_unlocked {s : State} (h : s.ls = .unlocked) (S : Nat) :
    ctrl S s = ctrlConverging S (enterLockState .converging s) := by
  simp only [ctrl, h]

/-- The M-th window in tolerance in a row locks (R154). -/
theorem ctrlConverging_of_last_good {s : State} {S : Nat} (h : InTol s.cfg S) (hg : s.good + 1 = s.cfg.m) :
    ctrlConverging S s = enterLockState .locked s := by
  rw [ctrlConverging, if_pos h, if_pos hg]

/-- An earlier window in tolerance is counted in `GOOD`. -/
theorem ctrlConverging_of_good {s : State} {S : Nat} (h : InTol s.cfg S) (hg : s.good + 1 ≠ s.cfg.m) :
    ctrlConverging S s = { s with good := s.good + 1 } := by
  rw [ctrlConverging, if_pos h, if_neg hg]

/-- Out of tolerance with the budget spent is the BREAK event (R156). -/
theorem ctrlConverging_of_spent {s : State} {S : Nat} (h : ¬ InTol s.cfg S) (ha : s.attempts = s.cfg.maxAttempts) :
    ctrlConverging S s = breakEvent { s with good := 0 } := by
  rw [ctrlConverging, if_neg h, ctrlCorrect, if_pos ha]

/-- Out of tolerance with budget left is a correction step (R155). -/
theorem ctrlConverging_of_budget {s : State} {S : Nat} (h : ¬ InTol s.cfg S) (ha : s.attempts ≠ s.cfg.maxAttempts) :
    ctrlConverging S s = applyStep (runLaw s.cfg s.dc S) { s with good := 0, attempts := s.attempts + 1 } := by
  rw [ctrlConverging, if_neg h, ctrlCorrect, if_neg ha]

/-- A window in tolerance keeps the lock and clears `BAD` (R158). -/
theorem ctrlLocked_of_inTol {s : State} {S : Nat} (h : InTol s.cfg S) : ctrlLocked S s = { s with bad := 0 } := by
  rw [ctrlLocked, if_pos h]

/-- The M-th window out of tolerance in a row demotes. -/
theorem ctrlLocked_of_last_bad {s : State} {S : Nat} (h : ¬ InTol s.cfg S) (hb : s.bad + 1 = s.cfg.m) :
    ctrlLocked S s = enterLockState .converging s := by
  rw [ctrlLocked, if_neg h, if_pos hb]

/-- An earlier window out of tolerance is counted in `BAD`. -/
theorem ctrlLocked_of_bad {s : State} {S : Nat} (h : ¬ InTol s.cfg S) (hb : s.bad + 1 ≠ s.cfg.m) :
    ctrlLocked S s = { s with bad := s.bad + 1 } := by
  rw [ctrlLocked, if_neg h, if_neg hb]

/-! ### The lock state and its counters -/

/-- `LS`, `GOOD`, `BAD` and `ATTEMPTS` (10_state.md R31, R32). -/
def lockView (s : State) : LockState × Nat × Nat × Nat := (s.ls, s.good, s.bad, s.attempts)

/-- The rows of an in-tolerance window judged as a `Converging` one (R151). -/
theorem ctrlConverging_lockView_of_inTol {s : State} {S : Nat} (h : InTol s.cfg S) :
    lockView (ctrlConverging S s) =
      if s.good + 1 = s.cfg.m then (.locked, 0, 0, 0) else (s.ls, s.good + 1, s.bad, s.attempts) := by
  split_ifs with hg
  · rw [ctrlConverging_of_last_good h hg]; rfl
  · rw [ctrlConverging_of_good h hg]; rfl

/-- The rows of an out-of-tolerance window judged as a `Converging` one (R151). -/
theorem ctrlConverging_lockView_of_not_inTol {s : State} {S : Nat} (h : ¬ InTol s.cfg S) :
    lockView (ctrlConverging S s) =
      if s.attempts = s.cfg.maxAttempts then (.unlocked, 0, s.bad, 0) else (s.ls, 0, s.bad, s.attempts + 1) := by
  split_ifs with ha
  · rw [ctrlConverging_of_spent h ha]; rfl
  · rw [ctrlConverging_of_budget h ha]; simp [lockView]

/-- The rows of an out-of-tolerance window while `Locked` (R151). -/
theorem ctrlLocked_lockView_of_not_inTol {s : State} {S : Nat} (h : ¬ InTol s.cfg S) :
    lockView (ctrlLocked S s) =
      if s.bad + 1 = s.cfg.m then (.converging, 0, 0, 0) else (s.ls, s.good, s.bad + 1, s.attempts) := by
  split_ifs with hb
  · rw [ctrlLocked_of_last_bad h hb]; rfl
  · rw [ctrlLocked_of_bad h hb]; rfl

/-- A window while `Locked` changes nothing but the lock state and its counters (R158). -/
theorem ctrlLocked_frame (S : Nat) (s : State) : ctrlLocked S s = { s with
    ls := (ctrlLocked S s).ls, good := (ctrlLocked S s).good
    bad := (ctrlLocked S s).bad, attempts := (ctrlLocked S s).attempts } := by
  unfold ctrlLocked
  split_ifs <;> rfl

/-- Nor does an in-tolerance window judged as a `Converging` one (R159). -/
theorem ctrlConverging_frame_of_inTol {s : State} {S : Nat} (h : InTol s.cfg S) : ctrlConverging S s = { s with
    ls := (ctrlConverging S s).ls, good := (ctrlConverging S s).good
    bad := (ctrlConverging S s).bad, attempts := (ctrlConverging S s).attempts } := by
  by_cases hg : s.good + 1 = s.cfg.m
  · rw [ctrlConverging_of_last_good h hg]; rfl
  · rw [ctrlConverging_of_good h hg]

/-! ### Windows at the target -/

/-- The expected sum is in tolerance, whatever the tolerance is (R136). -/
theorem inTol_expectedSum (c : Config) : InTol c (expectedSum c) := by simp [InTol]

/-- While `Converging`, as many in-tolerance windows in a row as are still to count lock. -/
theorem foldl_ctrl_replicate_of_converging {S k : Nat} {s : State} (hl : s.ls = .converging) (h : InTol s.cfg S)
    (hk : s.good + (k + 1) = s.cfg.m) :
    (List.replicate (k + 1) S).foldl (fun u T => ctrl T u) s = enterLockState .locked s := by
  induction k generalizing s with
  | zero => exact (ctrl_of_converging hl S).trans (ctrlConverging_of_last_good h hk)
  | succ k ih =>
    have step : ctrl S s = { s with good := s.good + 1 } := by
      rw [ctrl_of_converging hl, ctrlConverging_of_good h (by omega)]
    have rest := ih (s := { s with good := s.good + 1 }) hl h (by simp only; omega)
    rw [List.replicate_succ, List.foldl_cons, step, rest]
    rfl

/-- From `Unlocked`, M in-tolerance windows in a row lock. -/
theorem foldl_ctrl_replicate_of_unlocked {S : Nat} {s : State} (hl : s.ls = .unlocked) (hm : 1 ≤ s.cfg.m)
    (h : InTol s.cfg S) : (List.replicate s.cfg.m S).foldl (fun u T => ctrl T u) s = enterLockState .locked s := by
  obtain ⟨k, hk⟩ := Nat.exists_eq_add_of_le' hm
  have first : ctrl S s = ctrl S (enterLockState .converging s) := by
    rw [ctrl_of_unlocked hl, ctrl_of_converging rfl]
  have rest := foldl_ctrl_replicate_of_converging (s := enterLockState .converging s) (k := k) rfl h (by simp [hk])
  rw [List.replicate_succ, List.foldl_cons] at rest
  rw [hk, List.replicate_succ, List.foldl_cons, first, rest]
  rfl

/-! ### Applying a DriveConfig -/

/-- The state with the device's DriveConfig and `OUT` replaced: all that a command of the controller writes. -/
def withDevice (osc : DriveConfig) (out : List OutRec) (s : State) : State := { s with oscDc := osc, out := out }

@[simp] theorem withDevice_dc (osc : DriveConfig) (out : List OutRec) (s : State) : (withDevice osc out s).dc = s.dc := rfl
@[simp] theorem withDevice_oscDc (osc : DriveConfig) (out : List OutRec) (s : State) :
    (withDevice osc out s).oscDc = osc := rfl
@[simp] theorem withDevice_out (osc : DriveConfig) (out : List OutRec) (s : State) : (withDevice osc out s).out = out := rfl
@[simp] theorem withDevice_withDevice (osc osc' : DriveConfig) (out out' : List OutRec) (s : State) :
    withDevice osc out (withDevice osc' out' s) = withDevice osc out s := rfl

/-- A command issued if its part changes writes the device and `OUT` alone; where the part does not change, the device
already holds what the command would write. -/
theorem issueIf_changed {α : Type} [DecidableEq α] {x y : α} {c : Command} {osc : DriveConfig} {s : State}
    (hc : c ≠ .getdc) (issued : (devCommand c s).oscDc = osc) (held : x = y → s.oscDc = osc) :
    issueIf (decide (x ≠ y)) c s = withDevice osc (s.out ++ if x ≠ y then [.cmd c] else []) s := by
  by_cases h : x = y
  · simp [issueIf, h, withDevice, ← held h]
  · subst issued
    simp only [issueIf, h, ne_eq, not_false_eq_true, decide_true, if_true]
    cases c with
    | getdc => exact absurd rfl hc
    | setdc | setdiv | setrng => rfl

/-- With the device at `DC`, APPLY brings it to the new DriveConfig part by part, and then takes that over (R157). -/
theorem applyStep_eq {s : State} (h : s.oscDc = s.dc) (d : DriveConfig) :
    applyStep d s = applyDc d (withDevice d (s.out ++ applyRecords s.dc d) s) := by
  obtain ⟨ds, div, rng⟩ := d
  unfold applyStep
  rw [issueIf_changed (c := .setdiv div) (osc := { s.dc with div := div }),
    issueIf_changed (c := .setdc (packDs ds)) (osc := { s.dc with div := div, ds := ds }),
    issueIf_changed (c := .setrng rng) (osc := { ds := ds, div := div, rng := rng })]
  all_goals simp +contextual [applyRecords, devCommand, h]

/-- Applying the DriveConfig there is changes nothing (R157). -/
theorem applyStep_self (s : State) : applyStep s.dc s = s := by simp [applyStep, issueIf, applyDc]

/-- Applying another, with the device at `DC`: the commands for its changes, then `DC` and the window reset (R157). -/
theorem applyStep_of_ne {s : State} (h : s.oscDc = s.dc) {d : DriveConfig} (hd : d ≠ s.dc) :
    applyStep d s = { s with
      dc := d, oscDc := d, win := [], cnt := 0, sum := 0, fresh := 0, out := s.out ++ applyRecords s.dc d } := by
  rw [applyStep_eq h, applyDc, withDevice_dc, if_pos hd]
  rfl

end Sys2Proof.Machine

open Sys2Proof Sys2Proof.Machine

/-- Settles O18: the rows while `Unlocked` are those while `Converging` with the counters cleared, and by (I4) the counters
a row does not name are 0. -/
theorem lockStateTransitionsAreTheTable : Obligations.LockStateTransitionsAreTheTable := by
  intro s S hc hi
  refine ⟨fun hl h => ?_, fun hl h => ?_, fun hl h => ?_, fun hl h => ?_, fun hl h => ?_, fun hl h => ?_, fun hl => ?_,
    fun hl h ha => ?_⟩
  · rw [ctrl_of_unlocked hl]
    refine (ctrlConverging_lockView_of_inTol (s := enterLockState .converging s) h).trans ?_
    simp [eq_comm]
  · rw [ctrl_of_unlocked hl]
    exact (ctrlConverging_lockView_of_not_inTol (s := enterLockState .converging s) h).trans
      (if_neg (Nat.ne_of_lt hc.maxAttempts_pos))
  · rw [ctrl_of_converging hl]
    refine (ctrlConverging_lockView_of_inTol h).trans ?_
    rw [hl, hi.bad_zero (by simp [hl])]
  · rw [ctrl_of_converging hl]
    refine (ctrlConverging_lockView_of_not_inTol h).trans ?_
    rw [hl, hi.bad_zero (by simp [hl])]
  · rw [ctrl_of_locked hl, ctrlLocked_of_inTol h]
    simp [hl, hi.good_zero, hi.attempts_zero]
  · rw [ctrl_of_locked hl]
    refine (ctrlLocked_lockView_of_not_inTol h).trans ?_
    rw [hl, hi.good_zero (by simp [hl]), hi.attempts_zero (by simp [hl])]
  · rw [ctrl_of_locked hl]
    exact ctrlLocked_frame S s
  · rw [ctrl_of_converging hl, ctrlConverging_of_spent h ha]
    simp [breakEvent, takeEvent, emitRec, hi.bad_zero, hl]

/-- Settles O19: with the device at `DC`, the commands for the changed parts make it the new DriveConfig. -/
theorem applyingAStepIssuesTheCommandsAndResetsTheWindow :
    Obligations.ApplyingAStepIssuesTheCommandsAndResetsTheWindow := by
  refine fun s d h => ⟨fun hd => ?_, fun hd => ?_⟩
  · rw [hd, applyStep_self]
  · rw [applyStep_of_ne h hd, applyRecords, ← List.append_assoc, ← List.append_assoc]

/-- Settles O22: an in-tolerance window moves the lock state and its counters alone, and the expected sum is in
tolerance. -/
theorem deadbandMakesNoChangeAtTarget : Obligations.DeadbandMakesNoChangeAtTarget := by
  refine ⟨fun s S h => ?_, fun s hc _ hl => ?_⟩
  · cases hl : s.ls with
    | unlocked => exact ⟨_, _, _, _, (ctrl_of_unlocked hl S).trans (ctrlConverging_frame_of_inTol h)⟩
    | converging => exact ⟨_, _, _, _, (ctrl_of_converging hl S).trans (ctrlConverging_frame_of_inTol h)⟩
    | locked => exact ⟨_, _, _, _, (ctrl_of_locked hl S).trans (ctrlLocked_frame S s)⟩
  · exact foldl_ctrl_replicate_of_unlocked hl hc.m_pos (inTol_expectedSum s.cfg)
end

section
/-! SUPPORT. The sample counter `BITCNT` across one stimulus operation (43_frame_assembler.md R181, R182). -/

namespace Sys2Proof.Machine

/-- On a counter in range, FRAME's reset at `FRAME_BITS` is counting modulo `FRAME_BITS` (R181). -/
theorem runPass_bitcnt_mod {s : State} (h : s.bitcnt < s.cfg.frameBits) (b : BitSample) :
    (runPass b s).bitcnt = (s.bitcnt + 1) % s.cfg.frameBits := by
  rw [runPass_bitcnt]
  split_ifs with hb
  · rw [hb, Nat.mod_self]
  · exact (Nat.mod_eq_of_lt (by omega)).symm

/-- A falling edge that completes a sample counts it (R182). -/
theorem exec_fall_bitcnt_of_sample {s t : State} (h : exec .fall s = .next t) (hs : SampleBearing s)
    (hb : s.bitcnt < s.cfg.frameBits) : t.bitcnt = (s.bitcnt + 1) % s.cfg.frameBits := by
  rw [fall_of_sample hs] at h
  cases h
  exact runPass_bitcnt_mod (s := { s with armed := false }) hb _

/-- An edge that produced no sample is not counted (R182). -/
theorem exec_fall_bitcnt_of_no_sample {s t : State} (h : exec .fall s = .next t) (hs : ¬ SampleBearing s) :
    t.bitcnt = s.bitcnt := by
  rw [fall_of_no_sample hs] at h
  cases h
  rfl

/-- Of the stimulus operations only `FALL` and `RST` touch the counter (R183). -/
theorem exec_bitcnt_of_ne_fall_rst {i : Instr} {s t : State} (hi : i.opClass = .stimulus) (h : exec i s = .next t)
    (hf : i ≠ .fall) (hr : i ≠ .rst) : t.bitcnt = s.bitcnt := by
  cases i with
  | adv n =>
    rw [exec_adv] at h
    cases h
    rw [txAdv_bitcnt, tickAdv_bitcnt]
  | rise | poll => cases h; rfl
  | fall => exact absurd rfl hf
  | rst => exact absurd rfl hr
  | getdc | setdc | setdiv | setrng | emit | evt => cases hi

end Sys2Proof.Machine

open Sys2Proof Sys2Proof.Machine

/-- Settles O28: every pass runs FRAME, whatever EST and CTRL did, and only a sample-bearing `FALL` runs the pass. -/
theorem frameCounterCountsEverySample : Obligations.FrameCounterCountsEverySample := by
  refine fun i s t hi h hr => ⟨?_, fun hn => ?_⟩
  · rintro rfl hs hb
    exact exec_fall_bitcnt_of_sample h hs hb
  · by_cases hf : i = .fall
    · subst hf
      exact exec_fall_bitcnt_of_no_sample h fun hs => hn ⟨rfl, hs⟩
    · exact exec_bitcnt_of_ne_fall_rst hi h hf hr
end

section
/-! SUPPORT. The status codes among the records of `OUT`, the stage SIG as one update, and the level of the current sink
while time passes (44_power_line_signaler.md R191 to R196). -/

namespace Sys2Proof.Machine

/-! ### The `EMIT` records of a history -/

@[simp] theorem emitRecords_nil : emitRecords [] = [] := rfl

@[simp] theorem emitRecords_append (l l' : List OutRec) : emitRecords (l ++ l') = emitRecords l ++ emitRecords l' :=
  List.filter_append ..

@[simp] theorem emitRecords_emit (c : StatusCode) (l : List OutRec) :
    emitRecords (.emit c :: l) = .emit c :: emitRecords l := rfl
@[simp] theorem emitRecords_evt (k : ErrorKind) (l : List OutRec) : emitRecords (.evt k :: l) = emitRecords l := rfl
@[simp] theorem emitRecords_cmd (c : Command) (l : List OutRec) : emitRecords (.cmd c :: l) = emitRecords l := rfl
@[simp] theorem emitRecords_reset (l : List OutRec) : emitRecords (.reset :: l) = emitRecords l := rfl

/-- A record that only some condition appends is an `EMIT` record only under it. -/
@[simp] theorem emitRecords_ite (p : Prop) [Decidable p] (l l' : List OutRec) :
    emitRecords (if p then l else l') = if p then emitRecords l else emitRecords l' := apply_ite ..

/-- A correction step issues commands and hands on no code. -/
@[simp] theorem emitRecords_applyRecords (dc dc' : DriveConfig) : emitRecords (applyRecords dc dc') = [] := by
  simp [applyRecords]

/-- CTRL hands on no code. -/
@[simp] theorem emitRecords_ctrlRecords (s : State) (S : Nat) : emitRecords (ctrlRecords s S) = [] := by
  unfold ctrlRecords
  cases s.ls <;> simp

/-! ### The stage SIG -/

/-- The code of a lock state (R191). -/
theorem codeFor_eq (l : LockState) : codeFor l = if l = .locked then .lock else .brk := by cases l <;> rfl

/-- Handing a code to the transmitter as one update (R192, R193). -/
theorem sendCode_eq (c : StatusCode) (s : State) : sendCode c s = { s with
    txActive := true, txCode := c, txElapsed := 0
    out := s.out ++ (if s.txActive = true then [.evt .linkSaturation] else []) ++ [.emit c] } := by
  cases h : s.txActive <;> simp [sendCode, noteSaturation, startCode, takeEvent, emitRec, h]

/-! ### The codes one operation hands on -/

/-- The glitch band does not read the latest sample (41_frequency_estimator.md R132). -/
@[simp] theorem glitch_recordSample (b : BitSample) (s : State) (bt : Nat) :
    Glitch (recordSample b s) bt ↔ Glitch s bt := Iff.rfl

/-- What the pass appends to `OUT`, stage by stage (45_cross_core_and_capability.md R210). -/
theorem runPass_out (b : BitSample) (s : State) : (runPass b s).out = s.out ++
    (if Glitch s b.bt then [.evt .edgeGlitch] else []) ++
    ((est b.bt (recordSample b s)).1.map (ctrlRecords (est b.bt (recordSample b s)).2)).getD [] ++
    (if s.bitcnt + 1 = s.cfg.frameBits then
      (if s.txActive = true then [.evt .linkSaturation] else []) ++ [.emit (codeFor (runPass b s).ls)] else []) := by
  simp [runPass, sigIfBoundary_out, ctrlIfEmitted_out, est_out]

/-- The pass hands on one code at a boundary, that of the `LS` it leaves, and none elsewhere: SIG runs after CTRL and
does not write `LS` (R191, R198). -/
theorem emitRecords_runPass (b : BitSample) (s : State) : emitRecords (runPass b s).out = emitRecords s.out ++
    if s.bitcnt + 1 = s.cfg.frameBits then [.emit (codeFor (runPass b s).ls)] else [] := by
  rw [runPass_out]
  cases (est b.bt (recordSample b s)).1 <;> simp

/-- A falling edge hands on one code if it is a boundary, and none otherwise. -/
theorem emitRecords_exec_fall {s t : State} (h : exec .fall s = .next t) :
    emitRecords t.out = emitRecords s.out ++ if Boundary s then [.emit (codeFor t.ls)] else [] := by
  by_cases hs : SampleBearing s
  · rw [fall_of_sample hs] at h
    cases h
    rw [emitRecords_runPass]
    simp only [Boundary, and_iff_right hs]
  · rw [fall_of_no_sample hs] at h
    cases h
    rw [if_neg fun hb : Boundary s => hs hb.1, List.append_nil]

/-- Of the stimulus operations only `FALL` hands on a code. -/
theorem emitRecords_exec_of_ne_fall {i : Instr} {s t : State} (hi : i.opClass = .stimulus) (h : exec i s = .next t)
    (hf : i ≠ .fall) : emitRecords t.out = emitRecords s.out := by
  cases i with
  | adv n =>
    rw [exec_adv] at h
    cases h
    rw [txAdv_out, tickAdv_out]
  | rise | poll => cases h; rfl
  | rst => cases h; simp [boot]
  | fall => exact absurd rfl hf
  | getdc | setdc | setdiv | setrng | emit | evt => cases hi

/-! ### The current sink -/

/-- The pin of an idle transmitter is 0 (R195). -/
theorem sink_of_idle {s : State} (h : s.txActive = false) : sink s = false := by simp [sink, sinkLevel, h]

/-- The pin t ticks from now is that of the transmitter t ticks further into the code, 0 once the code is over (R196). -/
theorem sinkAfter_eq (s : State) (t : Nat) : sinkAfter s t =
    (decide (s.txElapsed + t < s.cfg.txTotal) && sink { s with txElapsed := s.txElapsed + t }) := by
  by_cases h : s.txElapsed + t < s.cfg.txTotal <;> simp [sinkAfter, sink, h]

/-- The transmitter's share of time takes the pin along its waveform (R194, R196). -/
theorem sink_txAdv (n : Nat) (s : State) : sink (txAdv n s) = sinkAfter s n := by
  rw [sinkAfter_eq]
  rcases Bool.eq_false_or_eq_true s.txActive with h | h
  · by_cases hs : CodeSent s.cfg (s.txElapsed + n)
    · rw [txAdv_of_sent h hs, sink_of_idle rfl, decide_eq_false (Nat.not_lt.mpr hs), Bool.false_and]
    · rw [txAdv_of_not_sent h hs, decide_eq_true (Nat.lt_of_not_le hs), Bool.true_and]
  · simp [txAdv_of_idle h, sink_of_idle, h]

end Sys2Proof.Machine

open Sys2Proof Sys2Proof.Machine

/-- Settles O29: only SIG appends an `EMIT` record, it runs in a pass at a boundary only, and it reads the `LS` that CTRL
left, which the pass then keeps. -/
theorem oneCodePerBoundarySaysWhetherLocked : Obligations.OneCodePerBoundarySaysWhetherLocked := by
  intro i s t hi h
  by_cases hf : i = .fall
  · subst hf
    rw [emitRecords_exec_fall h, codeFor_eq, apply_ite OutRec.emit]
    simp only [true_and]
  · rw [emitRecords_exec_of_ne_fall hi h hf, if_neg fun hb => hf hb.1, List.append_nil]

/-- Settles O30: SIG hands the code of `LS` to the transmitter, which is this one update. -/
theorem signalerStartsTheCodeAfresh : Obligations.SignalerStartsTheCodeAfresh := by
  intro s
  rw [← codeFor_eq]
  exact sendCode_eq (codeFor s.ls) s

/-- Settles O33: the pin is read off the codeword, the counter's share of an `ADV` leaves it alone, and the transmitter's
share takes it along its waveform. -/
theorem sinkFollowsTheCodeword : Obligations.SinkFollowsTheCodeword := by
  refine ⟨fun s => ?_, fun s u t h => ?_, sinkAfter_eq⟩
  · cases hc : s.txCode <;> simp only [sink, sinkLevel, symbol, codeword, hc]
  · rw [exec_adv] at h
    cases h
    exact sink_txAdv t.toNat (tickAdv t.toNat s)
end

section
/-! SUPPORT. Who writes the publication (45_cross_core_and_capability.md R213, R214, R218), and the capability port's
`SETDIV` (R222). -/

namespace Sys2Proof.Machine

/-- The pass ends by publishing the `LS` and `DC` it leaves with the sample it ran on (R213, R214). -/
theorem runPass_pub_eq (b : BitSample) (s : State) : (runPass b s).pub =
    { ls := (runPass b s).ls, dc := (runPass b s).dc, bt := b.bt, pw := b.pw, val := b.val, valid := true } := by
  obtain ⟨hbt, hpw, hval, hvalid⟩ := runPass_sample b s
  rw [runPass_pub, snapshot, hbt, hpw, hval, hvalid]

/-- A `SETDIV` that answers a next state set the divider and nothing else (R222). -/
theorem eq_devSetdiv_of_exec_setdiv {d : BitVec 6} {s t : State} (h : exec (.setdiv d) s = .next t) :
    t = devSetdiv d s := by
  simp only [exec, execSetdiv] at h
  split_ifs at h
  cases h
  rfl

/-- A falling edge that completes no sample publishes nothing (R214). -/
theorem exec_fall_pub_of_no_sample {s t : State} (h : exec .fall s = .next t) (hs : ¬ SampleBearing s) :
    t.pub = s.pub := by
  rw [fall_of_no_sample hs] at h
  cases h
  rfl

/-- Only `FALL` and `RST` can write the publication (R214). -/
theorem exec_pub_of_ne_fall_rst {i : Instr} {s t : State} (h : exec i s = .next t) (hf : i ≠ .fall) (hr : i ≠ .rst) :
    t.pub = s.pub := by
  cases i with
  | adv n =>
    rw [exec_adv] at h
    cases h
    rw [txAdv_pub, tickAdv_pub]
  | fall => exact absurd rfl hf
  | rst => exact absurd rfl hr
  | setdiv d => rw [eq_devSetdiv_of_exec_setdiv h, devSetdiv_pub]
  | emit c => cases h; exact sendCode_pub c s
  | rise | poll | getdc | setdc | setrng | evt => cases h; rfl

end Sys2Proof.Machine

open Sys2Proof Sys2Proof.Machine

/-- Settles O34: the pass and the boot end with the publication, and apart from them nothing publishes. -/
theorem everyPassPublishesItsOwnState : Obligations.EveryPassPublishesItsOwnState := by
  refine fun i s t h => ⟨?_, ?_, fun hr hn => ?_⟩
  · rintro rfl hs
    rw [fall_of_sample hs] at h
    cases h
    exact ⟨runPass_pub_eq _ _, runPass_sample _ _⟩
  · rintro rfl
    cases h
    rfl
  · by_cases hf : i = .fall
    · subst hf
      exact exec_fall_pub_of_no_sample h fun hs => hn ⟨rfl, hs⟩
    · exact exec_pub_of_ne_fall_rst h hf hr

/-- Settles O46: the strengths written are those the argument unpacks to. -/
theorem setdcWritesAllStrengths : Obligations.SetdcWritesAllStrengths :=
  fun ds _ => ⟨unpackDs ds, fun i => unpackDs_getElem ds i i.isLt, rfl⟩

/-- Settles O48: the word with code 3 matches the `SETRNG` row and misses its value condition. -/
theorem setrngWritesTheRange : Obligations.SetrngWritesTheRange :=
  ⟨fun _ _ => rfl, (rowDecodes_setrng (by decide)).reserved (by decide) (by decide)⟩
end

section
/-! SUPPORT. The decoder against the encoder: each argument decoder reads the argument field of its operation and of no
other (30_encoding.md R82 to R88, R97 to R99). -/

namespace Sys2Proof

/-- A word's decoding is that of its operation's opcode and argument. -/
theorem decodeWord_encode (i : Instr) : decodeWord (encode i) = decodeFields i.opcode i.arg := by
  rw [decodeWord, encode, opField_place, argField_place]

/-- The word of a divider decodes to it if it is 1 to 32, and is a reserved value otherwise (R87, R99 (c)). -/
theorem decodeWord_encode_setdiv (d : BitVec 6) : decodeWord (encode (.setdiv d)) =
    if 1 ≤ d.toNat ∧ d.toNat ≤ 32 then .instr (.setdiv d) else .invalid .reservedValue := by
  rw [decodeWord_encode]
  change decodeSetdiv (place 24 0 d) = _
  simp [decodeSetdiv]

/-- Decoding the word of a well-formed operation gives it back. -/
theorem decodeWord_encode_of_wellFormed {i : Instr} (h : i.WellFormed) : decodeWord (encode i) = .instr i := by
  cases i with
  | setdiv d => rw [decodeWord_encode_setdiv, if_pos h]
  | adv | rise | fall | rst | poll | getdc => rw [decodeWord_encode]; rfl
  | setdc ds =>
    rw [decodeWord_encode]
    change decodeSetdc (place 24 0 ds) = _
    simp [decodeSetdc]
  | setrng r =>
    rw [decodeWord_encode]
    change decodeSetrng (place 24 0 r.code) = _
    simp [decodeSetrng]
  | emit c =>
    rw [decodeWord_encode]
    change decodeEmit (place 24 0 c.code) = _
    simp [decodeEmit]
  | evt k =>
    rw [decodeWord_encode]
    change decodeEvt (place 24 0 k.code) = _
    simp [decodeEvt]

/-- Reading an operation's four bytes reads its word. -/
theorem decodeBytes_encodeBytes (i : Instr) (rest : List Byte) : decodeBytes (encodeBytes i ++ rest) =
    (decodeWord (encode i)).toOption.map fun j => (j, rest) := by
  rw [decodeBytes, encodeBytes, wordOfBytes_bytesOfWord]

/-! ### What a decoded argument says -/

/-- An argument stands for a well-formed operation with this opcode, and is its argument field. -/
structure ArgReads (op : BitVec 8) (arg : BitVec 24) (i : Instr) : Prop where
  wellFormed : i.WellFormed
  opcode_eq : i.opcode = op
  arg_eq : i.arg = arg

/-- An operation without an operand is read from the argument 0 alone (R85). -/
theorem argReads_of_decodeNoArg {i j : Instr} {arg : BitVec 24} (hw : i.WellFormed) (hi : i.arg = 0)
    (h : decodeNoArg i arg = .instr j) : ArgReads i.opcode arg j := by
  simp only [decodeNoArg] at h
  split_ifs at h with h0
  cases h
  exact ⟨hw, rfl, hi.trans h0.symm⟩

/-- `SETDC` is read from the argument that holds its strengths alone (R86). -/
theorem argReads_of_decodeSetdc {j : Instr} {arg : BitVec 24} (h : decodeSetdc arg = .instr j) : ArgReads 0x11 arg j := by
  simp only [decodeSetdc] at h
  split_ifs at h with h0
  cases h
  exact ⟨trivial, rfl, place_extractLsb'_of_above_zero 24 16 arg h0⟩

/-- `SETDIV` is read from the argument that holds its divider alone, 1 to 32 (R87). -/
theorem argReads_of_decodeSetdiv {j : Instr} {arg : BitVec 24} (h : decodeSetdiv arg = .instr j) :
    ArgReads 0x12 arg j := by
  simp only [decodeSetdiv] at h
  split_ifs at h with h0 hd
  cases h
  exact ⟨hd, rfl, place_extractLsb'_of_above_zero 24 6 arg (not_not.mp h0)⟩

/-- `SETRNG` is read from the argument that holds its range code alone (R88). -/
theorem argReads_of_decodeSetrng {j : Instr} {arg : BitVec 24} (h : decodeSetrng arg = .instr j) :
    ArgReads 0x13 arg j := by
  simp only [decodeSetrng] at h
  split_ifs at h with h0
  split at h
  next r hr =>
    cases h
    refine ⟨trivial, rfl, ?_⟩
    rw [Instr.arg, Range.code_of_ofCode hr, place_extractLsb'_of_above_zero 24 2 arg (not_not.mp h0)]
  next => cases h

/-- `EMIT` is read from the argument that holds its status code alone (R97). -/
theorem argReads_of_decodeEmit {j : Instr} {arg : BitVec 24} (h : decodeEmit arg = .instr j) : ArgReads 0x20 arg j := by
  simp only [decodeEmit] at h
  split_ifs at h with h0
  cases h
  refine ⟨trivial, rfl, ?_⟩
  rw [Instr.arg, StatusCode.code_ofCode, place_extractLsb'_of_above_zero 24 1 arg h0]

/-- `EVT` is read from the argument that holds its cause code alone (R97, R98). -/
theorem argReads_of_decodeEvt {j : Instr} {arg : BitVec 24} (h : decodeEvt arg = .instr j) : ArgReads 0x21 arg j := by
  simp only [decodeEvt] at h
  split_ifs at h with h0
  split at h
  next k hk =>
    cases h
    refine ⟨trivial, rfl, ?_⟩
    rw [Instr.arg, ErrorKind.code_of_ofCode hk, place_extractLsb'_of_above_zero 24 8 arg (not_not.mp h0)]
  next => cases h

/-- A word that decodes has the opcode of a row, and its argument decodes as that row says (R82). -/
theorem argReads_of_decodeWord {w : Word} {i : Instr} (h : decodeWord w = .instr i) :
    ArgReads (opField w) (argField w) i := by
  by_cases hop : ∃ r ∈ opTable, opField w = Machine.rowOpcode r
  · obtain ⟨r, hr, hop⟩ := hop
    rw [decodeWord, hop] at h
    rw [hop]
    simp only [opTable, List.mem_cons, List.not_mem_nil, or_false] at hr
    rcases hr with rfl | rfl | rfl | rfl | rfl | rfl | rfl | rfl | rfl | rfl | rfl
    · cases h
      exact ⟨trivial, rfl, rfl⟩
    · exact argReads_of_decodeNoArg (i := .rise) trivial rfl h
    · exact argReads_of_decodeNoArg (i := .fall) trivial rfl h
    · exact argReads_of_decodeNoArg (i := .rst) trivial rfl h
    · exact argReads_of_decodeNoArg (i := .poll) trivial rfl h
    · exact argReads_of_decodeNoArg (i := .getdc) trivial rfl h
    · exact argReads_of_decodeSetdc h
    · exact argReads_of_decodeSetdiv h
    · exact argReads_of_decodeSetrng h
    · exact argReads_of_decodeEmit h
    · exact argReads_of_decodeEvt h
  · push Not at hop
    rw [Machine.decodeWord_of_unassigned hop] at h
    cases h

end Sys2Proof

open Sys2Proof Sys2Proof.Machine

/-- Settles O1: opcode and argument field read back, each operand reads back from its argument, and the four bytes of a
word read back as it. -/
theorem decodingAnEncodedOperationGivesItBack : Obligations.DecodingAnEncodedOperationGivesItBack := by
  refine fun i h => ⟨decodeWord_encode_of_wellFormed h, fun rest => ?_⟩
  rw [decodeBytes_encodeBytes, decodeWord_encode_of_wellFormed h]
  rfl

/-- Settles O2: a word is its opcode over its argument, which are those of the operation read. -/
theorem encodingADecodedWordGivesItBack : Obligations.EncodingADecodedWordGivesItBack := by
  intro w i h
  obtain ⟨hw, hop, harg⟩ := argReads_of_decodeWord h
  exact ⟨hw, by rw [encode, hop, harg, place_opField_argField]⟩

/-- Settles O5: each listed word is the encoding of an operation, or misses its row's mask or value condition. -/
theorem wordsOfTheOpcodeTableDecodeAsListed : Obligations.WordsOfTheOpcodeTableDecodeAsListed := by
  unfold Obligations.WordsOfTheOpcodeTableDecodeAsListed
  decide
end

section
/-! SUPPORT. The reference law's answers: each of its branches is a valid single step
(42_oscillator_controller.md R160, R161). -/

namespace Sys2Proof.Machine

/-- A clamped value is at most the upper bound. -/
theorem clamp_le (x lo hi : Nat) : clamp x lo hi ≤ hi := min_le_right ..

/-- A clamped value is at least the lower bound. -/
theorem le_clamp {lo hi : Nat} (h : lo ≤ hi) (x : Nat) : lo ≤ clamp x lo hi := le_min (le_max_right ..) h

/-- Replacing one stage strength of a valid DriveConfig is a valid single step. -/
theorem withStage_ok {dc : DriveConfig} (h : dc.Valid) (i : Fin 8) (v : Nat) :
    (withStage dc i v).Valid ∧ OneStep dc (withStage dc i v) := by
  refine ⟨h, rfl, .inr ⟨rfl, i, fun j hj => ?_⟩⟩
  exact Vector.getElem_set_ne i.isLt j.isLt fun hij => hj (Fin.ext hij.symm)

/-- Setting the divider to 1 to 32 is a valid single step. -/
theorem withDiv_ok (dc : DriveConfig) {n : Nat} (h1 : 1 ≤ n) (h32 : n ≤ 32) :
    { dc with div := BitVec.ofNat 6 n }.Valid ∧ OneStep dc { dc with div := BitVec.ofNat 6 n } := by
  refine ⟨?_, rfl, .inl rfl⟩
  have hn : (BitVec.ofNat 6 n).toNat = n := Nat.mod_eq_of_lt (by omega)
  simp only [DriveConfig.Valid, hn]
  exact ⟨h1, h32⟩

/-- The weakening branch is a valid single step. -/
theorem reflawWeaken_ok {dc : DriveConfig} (h : dc.Valid) (q : Nat) :
    (reflawWeaken dc q).Valid ∧ OneStep dc (reflawWeaken dc q) := by
  unfold reflawWeaken
  split
  · exact ⟨h, .refl dc⟩
  · exact withStage_ok h _ _

/-- The strengthening branch is a valid single step. -/
theorem reflawStrengthen_ok {dc : DriveConfig} (h : dc.Valid) (q : Nat) :
    (reflawStrengthen dc q).Valid ∧ OneStep dc (reflawStrengthen dc q) := by
  unfold reflawStrengthen
  split
  · exact ⟨h, .refl dc⟩
  · exact withStage_ok h _ _

/-- The reference law answers a valid single step, whatever the window sum is. -/
theorem reflaw_ok (c : Config) {dc : DriveConfig} (h : dc.Valid) (S : Nat) :
    (reflaw c dc S).Valid ∧ OneStep dc (reflaw c dc S) := by
  unfold reflaw
  split_ifs
  · exact withDiv_ok dc (le_clamp (by decide) _) (clamp_le ..)
  · exact reflawWeaken_ok h _
  · exact reflawStrengthen_ok h _

/-- A configuration with the reference law has a law of R160. -/
theorem lawOk_of_reference {c : Config} (h : c.law = .reference) : LawOk c := by
  intro dc S hd _
  simpa only [runLaw, h] using reflaw_ok c hd S

end Sys2Proof.Machine

open Sys2Proof Sys2Proof.Machine

/-- Settles O26: the coarse branch sets a divider clamped to 1 to 32, the fine branches replace at most one strength. -/
theorem referenceLawMeetsTheConstraints : Obligations.ReferenceLawMeetsTheConstraints :=
  fun _ _ h => lawOk_of_reference h

/-- Settles O27: the five values are evaluated. -/
theorem referenceLawWorkedValues : Obligations.ReferenceLawWorkedValues := by
  refine ⟨?_, ?_, ?_, ?_, ?_⟩ <;> decide +kernel
end

section
/-! SUPPORT. The step and its ports, the capability port, the record output, and what every operation leaves alone
(20_memory.md section 4, 45_cross_core_and_capability.md sections 3 to 6, 70_reset_and_hazards.md section 1). -/

namespace Sys2Proof.Machine

/-! ### The step -/

/-- A step runs the first issued operation at the port of its class (R81, R99). -/
theorem step_of_decode {s : State} {x : Issue} {rest : List Issue} {i : Instr} (hs : s.input = x :: rest)
    (h : decodeWord x.word = .instr i) (hp : i.opClass = x.port) : step s = exec i { s with input := rest } := by
  simp only [step, hs, admission_of_decode h hp]

/-- With nothing issued the machine idles. -/
theorem step_of_idle {s : State} (h : s.input = []) : step s = .next s := by simp only [step, h]

/-! ### The operations as one update each -/

/-- `SETDIV` sets a divider of 1 to 32 (R222). -/
theorem exec_setdiv_of_valid {d : BitVec 6} (h : 1 ≤ d.toNat ∧ d.toNat ≤ 32) (s : State) :
    exec (.setdiv d) s = .next (devSetdiv d s) := if_pos h

/-- `SETDIV` refuses any other divider (R99 (c), R222). -/
theorem exec_setdiv_of_invalid {d : BitVec 6} (h : ¬ (1 ≤ d.toNat ∧ d.toNat ≤ 32)) (s : State) :
    exec (.setdiv d) s = .refused (.invalidWord .reservedValue) := if_neg h

/-- `POLL` appends the publication words and sets `HANDOFF` where they show `Locked` (R216). -/
theorem exec_poll (s : State) : exec .poll s = .next { s with
    polls := s.polls ++ [s.pub.words]
    handoff := s.handoff || decide (s.pub.ls = .locked) } := rfl

/-- `RST` is the reset state of the configuration, with the records appended (R218, R270, R272). -/
theorem exec_rst (s : State) : exec .rst s = .next { State.resetOf s.cfg with
    input := s.input, polls := s.polls, out := s.out ++ [.reset, .cmd .getdc] } := by
  rw [List.append_cons]
  rfl

/-- A well-formed operation answers a next state in every state. -/
theorem exec_completes {i : Instr} (h : i.WellFormed) (s : State) : ∃ t, exec i s = .next t := by
  cases i with
  | setdiv d => exact ⟨_, exec_setdiv_of_valid h s⟩
  | adv | rise | fall | rst | poll | getdc | setdc | setrng | emit | evt => exact ⟨_, rfl⟩

/-! ### The reset table -/

/-- The reset state of a configuration has the values of the table; those of the model's own fields are not in it. -/
theorem resetTable_resetOf (c : Config) (input : List Issue) (polls : List PubWords) (out : List OutRec) :
    ResetTable c { State.resetOf c with input := input, polls := polls, out := out } := by
  constructor <;> rfl

end Sys2Proof.Machine

open Sys2Proof Sys2Proof.Machine

/-- Settles O8: the first issued word is admitted at the port of its class, and with none issued nothing runs. -/
theorem stepRunsTheDecodedOperation : Obligations.StepRunsTheDecodedOperation :=
  ⟨fun _ _ _ _ hs h hp => step_of_decode hs h hp, fun _ h => step_of_idle h⟩

/-- Settles O9: only `SETDIV` can refuse, for a divider that is not well-formed; and an issued word decodes back to its
operation. -/
theorem everyOperationCompletes : Obligations.EveryOperationCompletes := by
  refine ⟨fun i s h => exec_completes h s, fun s i rest h hc hs => ?_⟩
  rw [step_of_decode hs (decodeWord_encode_of_wellFormed h) hc]
  exact exec_completes h _

/-- Settles O36: `POLL` is this one update. -/
theorem pollReturnsThePublication : Obligations.PollReturnsThePublication := by
  intro s
  rw [exec_poll]
  by_cases h : s.pub.ls = .locked <;> simp [h]

/-- Settles O40: the records aside, `RST` is the reset state of the configuration. -/
theorem rstReturnsTheMachineToReset : Obligations.RstReturnsTheMachineToReset := exec_rst

/-- Settles O41: the reset state has the values of the table, and what `RST` keeps is not in it. -/
theorem resetValuesAreTheTable : Obligations.ResetValuesAreTheTable :=
  ⟨fun s => ⟨_, exec_rst s, resetTable_resetOf s.cfg _ _ _, rfl⟩, fun c => resetTable_resetOf c [] [] [], rfl⟩

/-- Settles O45: `GETDC` is this one update. -/
theorem getdcReturnsTheDriveConfig : Obligations.GetdcReturnsTheDriveConfig := fun _ => rfl

/-- Settles O47: decoder and meaning make the same test of the divider. -/
theorem setdivWritesTheDivider : Obligations.SetdivWritesTheDivider := by
  refine fun d s => ⟨fun h => exec_setdiv_of_valid h s, fun h => ?_⟩
  have hd : ¬ (1 ≤ d.toNat ∧ d.toNat ≤ 32) := by omega
  exact ⟨(decodeWord_encode_setdiv d).trans (if_neg hd), exec_setdiv_of_invalid hd s⟩

/-- Settles O49: `EMIT` hands its code to the transmitter, `EVT` takes its error kind. -/
theorem recordOperationsRecord : Obligations.RecordOperationsRecord :=
  ⟨fun c s => congrArg Host.Outcome.next (sendCode_eq c s), fun _ _ => rfl⟩
end

section
/-! SUPPORT. CTRL in three rows: a window that moves the lock state at most, the BREAK event, and a correction step, each
as one update with its records (42_oscillator_controller.md sections 1 and 2). -/

namespace Sys2Proof.Machine

/-! ### The three rows -/

/-- A window in tolerance, or any window while `Locked`: nothing but the lock state and its counters moves (R154, R158). -/
def Quiet (S : Nat) (s : State) : Prop := InTol s.cfg S ∨ s.ls = .locked

/-- A window out of tolerance while `Converging` with the budget spent (R156). -/
def Spent (S : Nat) (s : State) : Prop :=
  ¬ InTol s.cfg S ∧ s.ls = .converging ∧ s.attempts = s.cfg.maxAttempts

/-- A window out of tolerance while `Unlocked`, or while `Converging` with budget left (R153, R155). -/
def Corrects (S : Nat) (s : State) : Prop :=
  ¬ InTol s.cfg S ∧ (s.ls = .unlocked ∨ s.ls = .converging ∧ s.attempts < s.cfg.maxAttempts)

/-- Every window falls under one of the three rows. -/
theorem ctrl_rows {s : State} (hi : CtrlInv s) (S : Nat) : Quiet S s ∨ Spent S s ∨ Corrects S s := by
  have ha := Nat.lt_or_eq_of_le hi.attempts_le
  by_cases h : InTol s.cfg S
  · exact .inl (.inl h)
  · cases hl : s.ls with
    | locked => exact .inl (.inr hl)
    | unlocked => exact .inr (.inr ⟨h, .inl hl⟩)
    | converging => exact .inr (ha.symm.imp (fun e => ⟨h, hl, e⟩) fun l => ⟨h, .inr ⟨hl, l⟩⟩)

/-- While `Unlocked` the window is judged as after entering `Converging` (R153). -/
theorem ctrl_eq_ctrl_enterLockState {s : State} (h : s.ls = .unlocked) (S : Nat) :
    ctrl S s = ctrl S (enterLockState .converging s) := by
  rw [ctrl_of_unlocked h, ctrl_of_converging rfl]

/-- A quiet window moves the lock state and its counters alone, and does not lead to `Unlocked`. -/
theorem ctrl_of_quiet {S : Nat} {s : State} (h : Quiet S s) : ∃ (l : LockState) (g b a : Nat), l ≠ .unlocked ∧
    ctrl S s = { s with ls := l, good := g, bad := b, attempts := a } := by
  have conv {u : State} (hu : InTol u.cfg S) (hl : u.ls = .converging) : (ctrlConverging S u).ls ≠ .unlocked := by
    by_cases hg : u.good + 1 = u.cfg.m
    · simp [ctrlConverging_of_last_good hu hg]
    · simp [ctrlConverging_of_good hu hg, hl]
  cases hl : s.ls with
  | locked =>
    refine ⟨_, _, _, _, ?_, (ctrl_of_locked hl S).trans (ctrlLocked_frame S s)⟩
    unfold ctrlLocked
    split_ifs <;> simp [hl]
  | unlocked =>
    have ht : InTol s.cfg S := h.resolve_right (by simp [hl])
    exact ⟨_, _, _, _, conv (u := enterLockState .converging s) ht rfl,
      (ctrl_of_unlocked hl S).trans (ctrlConverging_frame_of_inTol ht)⟩
  | converging =>
    have ht : InTol s.cfg S := h.resolve_right (by simp [hl])
    exact ⟨_, _, _, _, conv ht hl, (ctrl_of_converging hl S).trans (ctrlConverging_frame_of_inTol ht)⟩

/-- With the budget spent the window is the BREAK event (R156). -/
theorem ctrl_of_spent {S : Nat} {s : State} (h : Spent S s) : ctrl S s = { s with
    ls := .unlocked, good := 0, attempts := 0, out := s.out ++ [.evt .acquisitionTimeout] } := by
  obtain ⟨ht, hl, ha⟩ := h
  rw [ctrl_of_converging hl, ctrlConverging_of_spent ht ha]
  rfl

/-- The state with one more attempt spent `Converging`, to which a correction step applies the law's answer (R155). -/
def attempting (s : State) : State := { s with ls := .converging, good := 0, bad := 0, attempts := s.attempts + 1 }

/-- A correction step spends an attempt and applies what the law answers (R155). -/
theorem ctrl_of_corrects {S : Nat} {s : State} (hm : 1 ≤ s.cfg.maxAttempts) (hi : CtrlInv s) (h : Corrects S s) :
    ctrl S s = applyStep (runLaw s.cfg s.dc S) (attempting s) := by
  obtain ⟨ht, hl | ⟨hl, ha⟩⟩ := h
  · rw [ctrl_of_unlocked hl, ctrlConverging_of_budget (s := enterLockState .converging s) ht (Nat.ne_of_lt hm),
      attempting, hi.attempts_zero (by simp [hl])]
    rfl
  · rw [ctrl_of_converging hl, ctrlConverging_of_budget ht ha.ne, attempting, ← hl, ← hi.bad_zero (by simp [hl])]

/-! ### Their records -/

/-- A quiet window leaves no record. -/
theorem ctrlRecords_of_quiet {S : Nat} {s : State} (h : Quiet S s) : ctrlRecords s S = [] := by
  unfold ctrlRecords
  rcases h with h | h
  · rw [if_pos h]
  · rw [h, ite_self]

/-- The BREAK event leaves one. -/
theorem ctrlRecords_of_spent {S : Nat} {s : State} (h : Spent S s) :
    ctrlRecords s S = [.evt .acquisitionTimeout] := by
  obtain ⟨ht, hl, ha⟩ := h
  simp [ctrlRecords, ht, hl, ha]

/-- A correction step leaves the commands for what the law changes. -/
theorem ctrlRecords_of_corrects {S : Nat} {s : State} (hm : 1 ≤ s.cfg.maxAttempts) (h : Corrects S s) :
    ctrlRecords s S = applyRecords s.dc (runLaw s.cfg s.dc S) := by
  obtain ⟨ht, hl | ⟨hl, ha⟩⟩ := h
  · simp [ctrlRecords, ht, hl, show 0 ≠ s.cfg.maxAttempts by omega]
  · simp [ctrlRecords, ht, hl, ha.ne]

/-- A single step changes no range, so that its commands are those of the divider and the strengths (R157, R160 (c)). -/
theorem applyRecords_of_oneStep {dc dc' : DriveConfig} (h : OneStep dc dc') : applyRecords dc dc' =
    (if dc'.div ≠ dc.div then [.cmd (.setdiv dc'.div)] else []) ++
    (if dc'.ds ≠ dc.ds then [.cmd (.setdc (packDs dc'.ds))] else []) := by
  simp [applyRecords, h.1]

/-- A single step issues at most one command (R160 (b)). -/
theorem length_applyRecords_of_oneStep {dc dc' : DriveConfig} (h : OneStep dc dc') :
    (applyRecords dc dc').length ≤ 1 := by
  rw [applyRecords_of_oneStep h]
  obtain ⟨-, hds | ⟨hdiv, -⟩⟩ := h
  · rw [if_neg (not_not.mpr hds)]
    split <;> simp
  · rw [if_neg (not_not.mpr hdiv)]
    split <;> simp

/-- Commands are no error kinds. -/
theorem evt_not_mem_applyRecords (k : ErrorKind) (dc dc' : DriveConfig) : OutRec.evt k ∉ applyRecords dc dc' := by
  intro h
  rcases mem_applyRecords h with ⟨h, -⟩ | ⟨h, -⟩ | ⟨h, -⟩ <;> cases h

/-! ### Out-of-tolerance windows in a row -/

/-- What k correction steps make of a state's lock state, attempts and record of timeouts. -/
structure Corrected (s : State) (k : Nat) (t : State) : Prop where
  cfg_eq : t.cfg = s.cfg
  ls_eq : t.ls = .converging
  attempts_eq : t.attempts = s.attempts + k
  timeouts_eq : t.out.count (.evt .acquisitionTimeout) = s.out.count (.evt .acquisitionTimeout)

/-- One correction step while `Converging` with budget left. -/
theorem corrected_ctrl {S : Nat} {s : State} (hl : s.ls = .converging) (h : ¬ InTol s.cfg S)
    (ha : s.attempts < s.cfg.maxAttempts) : Corrected s 1 (ctrl S s) := by
  rw [ctrl_of_converging hl, ctrlConverging_of_budget h ha.ne]
  refine ⟨applyStep_cfg .., (applyStep_ls ..).trans hl, applyStep_attempts .., ?_⟩
  rw [applyStep_out, List.count_append, List.count_eq_zero_of_not_mem (evt_not_mem_applyRecords _ _ _), Nat.add_zero]

/-- As many correction steps as there are out-of-tolerance windows, within the budget. -/
theorem corrected_foldl_ctrl {Ss : List Nat} {s : State} (hl : s.ls = .converging) (h : ∀ T ∈ Ss, ¬ InTol s.cfg T)
    (ha : s.attempts + Ss.length ≤ s.cfg.maxAttempts) :
    Corrected s Ss.length (Ss.foldl (fun u T => ctrl T u) s) := by
  induction Ss generalizing s with
  | nil => exact ⟨rfl, hl, rfl, rfl⟩
  | cons T Ss ih =>
    rw [List.length_cons] at ha
    have hone := corrected_ctrl hl (h T List.mem_cons_self) (by omega)
    have hrest := ih (s := ctrl T s) hone.ls_eq (fun T' hT => hone.cfg_eq ▸ h T' (List.mem_cons_of_mem T hT))
      (by rw [hone.attempts_eq, hone.cfg_eq]; omega)
    refine ⟨hrest.cfg_eq.trans hone.cfg_eq, hrest.ls_eq, ?_, hrest.timeouts_eq.trans hone.timeouts_eq⟩
    rw [List.foldl_cons, hrest.attempts_eq, hone.attempts_eq, List.length_cons]
    omega

end Sys2Proof.Machine

open Sys2Proof Sys2Proof.Machine

/-- Settles O20: the step applies the law's answer, which is one step away, so that at most one part changes. -/
theorem aCorrectionStepAppliesTheLaw : Obligations.ACorrectionStepAppliesTheLaw := by
  intro s S hc hlaw hi hd ht hl
  obtain ⟨-, hone⟩ := hlaw s.dc S hd.dc_valid ht
  refine ⟨_, length_applyRecords_of_oneStep hone, applyRecords_of_oneStep hone, ?_⟩
  rw [ctrl_of_corrects hc.maxAttempts_pos hi ⟨ht, hl⟩]
  by_cases hdc : runLaw s.cfg s.dc S = s.dc
  · simp only [hdc, if_true, applyRecords_self, List.append_nil]
    refine (applyStep_self (attempting s)).trans ?_
    rw [attempting, hd.osc_eq]
  · simp only [if_neg hdc]
    exact applyStep_of_ne (s := attempting s) hd.osc_eq hdc

/-- Settles O21: the windows are correction steps from `Converging` with no attempt spent, and the next finds the budget
spent. -/
theorem breakComesAfterExactlyTheBudget : Obligations.BreakComesAfterExactlyTheBudget := by
  intro s Ss S _ _ hl hSs hS hne hlen t
  have ht : Corrected (enterLockState .converging s) Ss.length t := by
    obtain ⟨T, Ts, rfl⟩ := List.exists_cons_of_ne_nil hne
    simp only [t, List.foldl_cons, ctrl_eq_ctrl_enterLockState hl]
    exact corrected_foldl_ctrl (Ss := T :: Ts) rfl hSs (by simpa using hlen)
  have hcfg : t.cfg = s.cfg := ht.cfg_eq
  have hatt : t.attempts = Ss.length := ht.attempts_eq.trans (Nat.zero_add _)
  refine ⟨ht.ls_eq, hatt, ht.timeouts_eq, fun hfull => ctrl_of_spent ⟨?_, ht.ls_eq, ?_⟩⟩
  · rwa [hcfg]
  · rw [hatt, hcfg, hfull]
end

section
/-! SUPPORT. The pass of a falling edge by cases: what EST and CTRL make of a rejected sample, of an accepted one that
completes no window, and of one that does; and the records of the pass (45_cross_core_and_capability.md section 1). -/

namespace Sys2Proof.Machine

/-! ### EST and CTRL in the pass -/

/-- The state EST judges the sample of a falling edge on: disarmed, with the sample recorded (R114, R210). -/
def passStart (s : State) : State := recordSample (sampleNow s) { s with armed := false }

/-- The state that EST and, at an emission, CTRL leave (R210). -/
def judged (s : State) : State := ctrlIfEmitted (est (sampleNow s).bt (passStart s))

/-- The state with the sample in the window and no sum emitted (41_frequency_estimator.md R133). -/
def windowed (s : State) : State :=
  { passStart s with
    win := windowWith s (sampleNow s).bt, cnt := (windowWith s (sampleNow s).bt).length
    sum := (windowWith s (sampleNow s).bt).sum, fresh := s.fresh + 1 }

/-- The state with the sample in the window and its sum emitted, on which CTRL runs (R133). -/
def emitting (s : State) : State :=
  { passStart s with
    win := windowWith s (sampleNow s).bt, cnt := s.cfg.n, sum := emittedSum s, fresh := 0
    feValid := true, feSum := emittedSum s }

/-- The estimator's invariants speak of the configuration, the window and the latest FrequencyError alone. -/
theorem EstInv.congr {s t : State} (h : EstInv s) (hcfg : t.cfg = s.cfg) (hwin : windowView t = windowView s)
    (hfe : t.feSum = s.feSum) : EstInv t := by
  simp only [windowView, Prod.mk.injEq] at hwin
  obtain ⟨hw, hcnt, hsum, hfresh⟩ := hwin
  constructor
  · rw [hcnt, hw, h.cnt_eq]
  · rw [hcnt, hcfg]; exact h.cnt_le
  · rw [hfresh, hcnt]; exact h.fresh_le
  · rw [hfresh, hcfg]; exact h.fresh_lt
  · rw [hsum, hw, h.sum_eq]
  · rw [hw, hcfg]; exact h.win_lt
  · rw [hfe, hcfg]; exact h.feSum_lt

/-- A completed sample is rejected and recorded, enters the window, or completes one that CTRL then judges (R133, R210). -/
theorem judged_cases {s : State} (he : EstInv s) (hs : SampleBearing s) :
    (Glitch s (sampleNow s).bt ∧ ¬ Emits s ∧ judged s = takeEvent .edgeGlitch (passStart s)) ∨
    (¬ Glitch s (sampleNow s).bt ∧ ¬ Emits s ∧ judged s = windowed s) ∨
    (Emits s ∧ judged s = ctrl (emittedSum s) (emitting s)) := by
  obtain ⟨rejected, entered, emitted⟩ := estimatorKeepsTheWindowAndEmitsOncePerN (passStart s) (sampleNow s).bt
    (he.congr rfl rfl rfl)
  by_cases hg : Glitch s (sampleNow s).bt
  · exact .inl ⟨hg, fun h => h.2.1 hg, by rw [judged, rejected hg]; rfl⟩
  · by_cases hn : s.fresh + 1 = s.cfg.n
    · exact .inr (.inr ⟨⟨hs, hg, hn⟩, by rw [judged, (emitted hg hn).2]; rfl⟩)
    · exact .inr (.inl ⟨hg, fun h => hn h.2.2, by rw [judged, entered hg hn]; rfl⟩)

/-- At an emission CTRL judges the emitted sum. -/
theorem judged_of_emits {s : State} (he : EstInv s) (h : Emits s) :
    judged s = ctrl (emittedSum s) (emitting s) := by
  rcases judged_cases he h.1 with ⟨-, hn, -⟩ | ⟨-, hn, -⟩ | ⟨-, hj⟩
  · exact absurd h hn
  · exact absurd h hn
  · exact hj

@[simp] theorem judged_cfg (s : State) : (judged s).cfg = s.cfg := by simp [judged, passStart]
@[simp] theorem judged_bitcnt (s : State) : (judged s).bitcnt = s.bitcnt := by simp [judged, passStart]
@[simp] theorem judged_txActive (s : State) : (judged s).txActive = s.txActive := by simp [judged, passStart]
@[simp] theorem judged_txCode (s : State) : (judged s).txCode = s.txCode := by simp [judged, passStart]
@[simp] theorem judged_txElapsed (s : State) : (judged s).txElapsed = s.txElapsed := by simp [judged, passStart]

/-- Only an emission moves the controller's state (42_oscillator_controller.md R150). -/
theorem judged_ctrlView {s : State} (he : EstInv s) (hs : SampleBearing s) : ctrlView (judged s) =
    if Emits s then ctrlView (ctrl (emittedSum s) s) else ctrlView s := by
  rcases judged_cases he hs with ⟨-, hn, hj⟩ | ⟨-, hn, hj⟩ | ⟨hE, hj⟩
  · rw [if_neg hn, hj]; rfl
  · rw [if_neg hn, hj]; rfl
  · rw [if_pos hE, hj]
    exact ctrl_congr _ rfl rfl

/-! ### The falling edge -/

/-- After EST and CTRL a pass runs FRAME, SIG at a boundary, and the publication (R210). -/
theorem eq_publish_of_fall {s t : State} (h : exec .fall s = .next t) (hs : SampleBearing s) :
    t = publish (sigIfBoundary (frame (judged s))) := by
  rw [fall_of_sample hs] at h
  cases h
  rfl

/-- What follows CTRL in the pass leaves its state alone. -/
theorem fall_ctrlView {s t : State} (h : exec .fall s = .next t) (hs : SampleBearing s) :
    ctrlView t = ctrlView (judged s) := by
  simp [eq_publish_of_fall h hs, ctrlView]

/-- What follows EST and CTRL in the pass leaves the window alone. -/
theorem fall_windowView {s t : State} (h : exec .fall s = .next t) (hs : SampleBearing s) :
    windowView t = windowView (judged s) := by
  simp [eq_publish_of_fall h hs, windowView]

/-- An emitting falling edge leaves what CTRL makes of the controller's state and the emitted sum. -/
theorem fall_ctrlView_of_emits {s t : State} (he : EstInv s) (h : exec .fall s = .next t) (hE : Emits s) :
    ctrlView t = ctrlView (ctrl (emittedSum s) s) := by
  rw [fall_ctrlView h hE.1, judged_ctrlView he hE.1, if_pos hE]

/-- Any other falling edge leaves the controller's state alone. -/
theorem fall_ctrlView_of_not_emits {s t : State} (he : EstInv s) (h : exec .fall s = .next t) (hE : ¬ Emits s) :
    ctrlView t = ctrlView s := by
  by_cases hs : SampleBearing s
  · rw [fall_ctrlView h hs, judged_ctrlView he hs, if_neg hE]
  · rw [fall_of_no_sample hs] at h
    cases h
    rfl

/-- At a boundary the pass starts the code of the `LS` it leaves (44_power_line_signaler.md R191, R192). -/
theorem fall_tx_of_boundary {s t : State} (h : exec .fall s = .next t) (hb : Boundary s) :
    t.txActive = true ∧ t.txCode = codeFor t.ls ∧ t.txElapsed = 0 := by
  simp [eq_publish_of_fall h hb.1, sigIfBoundary, hb.2, sig, sendCode_eq]

/-- Elsewhere it leaves the transmitter alone. -/
theorem fall_tx_of_not_boundary {s t : State} (h : exec .fall s = .next t) (hb : ¬ Boundary s) :
    t.txActive = s.txActive ∧ t.txCode = s.txCode ∧ t.txElapsed = s.txElapsed := by
  by_cases hs : SampleBearing s
  · have hf : s.bitcnt + 1 ≠ s.cfg.frameBits := fun e => hb ⟨hs, e⟩
    simp [eq_publish_of_fall h hs, sigIfBoundary, hf]
  · rw [fall_of_no_sample hs] at h
    cases h
    exact ⟨rfl, rfl, rfl⟩

/-- Time, the latched timestamps, the reader's part and what is no hardware state are no business of a falling edge. -/
theorem fall_frame {s t : State} (h : exec .fall s = .next t) :
    t.cfg = s.cfg ∧ t.input = s.input ∧ t.tick = s.tick ∧ t.rising = s.rising ∧ t.prevRising = s.prevRising ∧
    t.nrise = s.nrise ∧ t.armed = false ∧ t.handoff = s.handoff ∧ t.polls = s.polls ∧ t.capResp = s.capResp := by
  by_cases hs : SampleBearing s
  · rw [fall_of_sample hs] at h
    cases h
    simp
  · rw [fall_of_no_sample hs] at h
    cases h
    simp

/-! ### The records of the pass -/

/-- What the pass of a falling edge from `s` to `t` appends to `OUT`, in the order of the stages (R210). -/
def fallRecords (s t : State) : List OutRec :=
  (if Glitch s (sampleNow s).bt then [.evt .edgeGlitch] else []) ++
  (if Emits s then ctrlRecords s (emittedSum s) else []) ++
  (if Boundary s ∧ s.txActive = true then [.evt .linkSaturation] else []) ++
  (if Boundary s then [.emit (codeFor t.ls)] else [])

/-- The judged state's records: that of a rejected sample, or CTRL's. -/
theorem judged_out {s : State} (he : EstInv s) (hs : SampleBearing s) : (judged s).out = s.out ++
    (if Glitch s (sampleNow s).bt then [.evt .edgeGlitch] else []) ++
    (if Emits s then ctrlRecords s (emittedSum s) else []) := by
  rcases judged_cases he hs with ⟨hg, hn, hj⟩ | ⟨hg, hn, hj⟩ | ⟨hE, hj⟩
  · rw [if_pos hg, if_neg hn, List.append_nil, hj]
    rfl
  · rw [if_neg hg, if_neg hn, List.append_nil, List.append_nil, hj]
    rfl
  · rw [if_neg hE.2.1, if_pos hE, List.append_nil, hj, ctrl_out]
    rfl

/-- A falling edge that completes a sample appends the records of its pass. -/
theorem fall_out {s t : State} (he : EstInv s) (h : exec .fall s = .next t) (hs : SampleBearing s) :
    t.out = s.out ++ fallRecords s t := by
  have hls : t.ls = (judged s).ls := by simp [eq_publish_of_fall h hs]
  rw [fallRecords, hls, eq_publish_of_fall h hs, publish_out, sigIfBoundary_out]
  by_cases hb : s.bitcnt + 1 = s.cfg.frameBits
  · have hB : Boundary s := ⟨hs, hb⟩
    simp only [judged_out he hs, frame_out, frame_boundary, frame_txActive, frame_ls, judged_bitcnt, judged_cfg,
      judged_txActive, decide_eq_true_eq, if_pos hb, if_pos hB, and_iff_right hB, List.append_assoc]
  · have hB : ¬ Boundary s := fun h => hb h.2
    simp only [judged_out he hs, frame_out, frame_boundary, judged_bitcnt, judged_cfg, decide_eq_true_eq, if_neg hb,
      if_neg hB, if_neg fun h : Boundary s ∧ s.txActive = true => hB h.1, List.append_assoc, List.append_nil]

/-- No other stimulus operation but `RST` appends a record. -/
theorem exec_out_of_no_pass {i : Instr} {s t : State} (hi : i.opClass = .stimulus) (h : exec i s = .next t)
    (hr : i ≠ .rst) (hn : ¬ (i = .fall ∧ SampleBearing s)) : t.out = s.out := by
  cases i with
  | adv n =>
    rw [exec_adv] at h
    cases h
    rw [txAdv_out, tickAdv_out]
  | fall =>
    rw [fall_of_no_sample fun hs => hn ⟨rfl, hs⟩] at h
    cases h
    rfl
  | rise | poll => cases h; rfl
  | rst => exact absurd rfl hr
  | getdc | setdc | setdiv | setrng | emit | evt => cases hi

/-- CTRL's records: that of the BREAK event, or the commands of a correction step (42_oscillator_controller.md R156,
R157). -/
theorem mem_ctrlRecords_iff {s : State} (hm : 1 ≤ s.cfg.maxAttempts) (hi : CtrlInv s) (S : Nat) (r : OutRec) :
    r ∈ ctrlRecords s S ↔
      Spent S s ∧ r = .evt .acquisitionTimeout ∨ Corrects S s ∧ r ∈ applyRecords s.dc (runLaw s.cfg s.dc S) := by
  have hexcl : Corrects S s → ¬ Spent S s := by
    rintro ⟨-, hl | ⟨-, ha⟩⟩ ⟨-, hl', ha'⟩
    · exact absurd (hl.symm.trans hl') (by decide)
    · omega
  rcases ctrl_rows hi S with h | h | h
  · have hns : ¬ Spent S s := fun hs => h.elim hs.1 fun hl => absurd (hl.symm.trans hs.2.1) (by decide)
    have hnc : ¬ Corrects S s := fun hc => h.elim hc.1 fun hl => by simpa [hl] using hc.2
    simp [ctrlRecords_of_quiet h, hns, hnc]
  · have hnc : ¬ Corrects S s := fun hc => hexcl hc h
    simp [ctrlRecords_of_spent h, h, hnc]
  · simp [ctrlRecords_of_corrects hm h, hexcl h, h]

/-- CTRL leaves one record at most. -/
theorem length_ctrlRecords_le {s : State} (h : Inv s) (S : Nat) : (ctrlRecords s S).length ≤ 1 := by
  rcases ctrl_rows h.controller S with hq | hb | hc
  · simp [ctrlRecords_of_quiet hq]
  · simp [ctrlRecords_of_spent hb]
  · rw [ctrlRecords_of_corrects h.cfg_valid.maxAttempts_pos hc]
    exact length_applyRecords_of_oneStep (h.law_ok _ _ h.drive.dc_valid hc.1).2

/-- The records of a correction step are the commands for what the law's answer changes. -/
theorem mem_applyRecords_iff_of_oneStep {dc dc' : DriveConfig} (h : OneStep dc dc') (r : OutRec) :
    r ∈ applyRecords dc dc' ↔ dc'.div ≠ dc.div ∧ r = .cmd (.setdiv dc'.div) ∨
      dc'.ds ≠ dc.ds ∧ r = .cmd (.setdc (packDs dc'.ds)) := by
  rw [applyRecords_of_oneStep h]
  by_cases hdiv : dc'.div = dc.div <;> by_cases hds : dc'.ds = dc.ds <;> simp [hdiv, hds]

/-- Each record of the pass with its cause. -/
theorem mem_fallRecords_iff {s : State} (h : Inv s) (t : State) (r : OutRec) : r ∈ fallRecords s t ↔
    Glitch s (sampleNow s).bt ∧ r = .evt .edgeGlitch ∨
    (Emits s ∧ Spent (emittedSum s) s) ∧ r = .evt .acquisitionTimeout ∨
    (CorrectionDue s ∧ (lawAnswer s).div ≠ s.dc.div) ∧ r = .cmd (.setdiv (lawAnswer s).div) ∨
    (CorrectionDue s ∧ (lawAnswer s).ds ≠ s.dc.ds) ∧ r = .cmd (.setdc (packDs (lawAnswer s).ds)) ∨
    (Boundary s ∧ s.txActive = true) ∧ r = .evt .linkSaturation ∨
    Boundary s ∧ r = .emit (codeFor t.ls) := by
  have hctrl : r ∈ (if Emits s then ctrlRecords s (emittedSum s) else []) ↔
      (Emits s ∧ Spent (emittedSum s) s) ∧ r = .evt .acquisitionTimeout ∨
      (CorrectionDue s ∧ (lawAnswer s).div ≠ s.dc.div) ∧ r = .cmd (.setdiv (lawAnswer s).div) ∨
      (CorrectionDue s ∧ (lawAnswer s).ds ≠ s.dc.ds) ∧ r = .cmd (.setdc (packDs (lawAnswer s).ds)) := by
    have hdue : CorrectionDue s ↔ Emits s ∧ Corrects (emittedSum s) s := Iff.rfl
    have hcorr : Corrects (emittedSum s) s ∧ r ∈ applyRecords s.dc (runLaw s.cfg s.dc (emittedSum s)) ↔
        Corrects (emittedSum s) s ∧ ((lawAnswer s).div ≠ s.dc.div ∧ r = .cmd (.setdiv (lawAnswer s).div) ∨
          (lawAnswer s).ds ≠ s.dc.ds ∧ r = .cmd (.setdc (packDs (lawAnswer s).ds))) :=
      and_congr_right fun hc => mem_applyRecords_iff_of_oneStep (h.law_ok _ _ h.drive.dc_valid hc.1).2 r
    rw [List.mem_ite_nil_right, mem_ctrlRecords_iff h.cfg_valid.maxAttempts_pos h.controller, hcorr, hdue]
    simp only [and_or_left, and_assoc]
  simp only [fallRecords, List.mem_append, hctrl, List.mem_ite_nil_right, List.mem_singleton, or_assoc]

/-- The commands of a pass are well-formed: the law answers a valid divider (R160 (a)). -/
theorem wellFormed_of_cmd_mem_fallRecords {s t : State} (h : Inv s) {c : Command} (hc : .cmd c ∈ fallRecords s t) :
    c.instr.WellFormed := by
  simp only [mem_fallRecords_iff h, reduceCtorEq, OutRec.cmd.injEq, and_false, or_false, false_or] at hc
  rcases hc with ⟨⟨⟨-, ht, -⟩, -⟩, rfl⟩ | ⟨-, rfl⟩
  · exact (h.law_ok _ _ h.drive.dc_valid ht).1
  · trivial

/-- A pass leaves three records at most: a rejected sample is not emitted, and CTRL leaves one. -/
theorem length_fallRecords_le {s : State} (h : Inv s) (t : State) : (fallRecords s t).length ≤ 3 := by
  have hest : ((if Glitch s (sampleNow s).bt then [OutRec.evt .edgeGlitch] else []) ++
      (if Emits s then ctrlRecords s (emittedSum s) else [])).length ≤ 1 := by
    by_cases hE : Emits s
    · rw [if_neg hE.2.1, if_pos hE]
      exact length_ctrlRecords_le h _
    · rw [if_neg hE, List.append_nil]
      split <;> decide
  have hsat : (if Boundary s ∧ s.txActive = true then [OutRec.evt .linkSaturation] else []).length ≤ 1 := by
    split <;> decide
  have hsig : (if Boundary s then [OutRec.emit (codeFor t.ls)] else []).length ≤ 1 := by
    split <;> simp
  rw [fallRecords, List.length_append, List.length_append]
  omega

end Sys2Proof.Machine
end

section
/-! SUPPORT. Across one operation: the controller's state, the window and the latest FrequencyError, with what a falling
edge leaves alone (10_state.md section 10, 42_oscillator_controller.md section 1). -/

namespace Sys2Proof.Machine

/-! ### The controller's state -/

/-! The parts of the view that single statements speak of. -/

theorem ls_eq_of_ctrlView_eq {s t : State} (h : ctrlView t = ctrlView s) : t.ls = s.ls := congrArg Prod.fst h

theorem dc_eq_of_ctrlView_eq {s t : State} (h : ctrlView t = ctrlView s) : t.dc = s.dc := by
  simp only [ctrlView, Prod.mk.injEq] at h
  obtain ⟨-, -, -, -, hdc, -⟩ := h
  exact hdc

theorem oscDc_eq_of_ctrlView_eq {s t : State} (h : ctrlView t = ctrlView s) : t.oscDc = s.oscDc := by
  simp only [ctrlView, Prod.mk.injEq] at h
  obtain ⟨-, -, -, -, -, hosc⟩ := h
  exact hosc

/-- Applying a DriveConfig brings the device to it, if the device was at `DC` (R157). -/
theorem applyStep_oscDc {s : State} (h : s.oscDc = s.dc) (d : DriveConfig) : (applyStep d s).oscDc = d := by
  by_cases hd : d = s.dc
  · rw [hd, applyStep_self, h]
  · rw [applyStep_of_ne h hd]

/-- What a correction step leaves of the controller's state. -/
theorem ctrlView_ctrl_of_corrects {S : Nat} {s : State} (hm : 1 ≤ s.cfg.maxAttempts) (hi : CtrlInv s) (hd : DriveInv s)
    (h : Corrects S s) : ctrlView (ctrl S s) =
      (.converging, 0, 0, s.attempts + 1, runLaw s.cfg s.dc S, runLaw s.cfg s.dc S) := by
  rw [ctrl_of_corrects hm hi h, ctrlView, applyStep_oscDc (s := attempting s) hd.osc_eq, applyStep_dc, applyStep_ls,
    applyStep_good, applyStep_bad, applyStep_attempts]
  rfl

/-- Of the stimulus operations only `RST` and an emitting `FALL` move the controller's state (R150). -/
theorem exec_ctrlView_of_no_emission {i : Instr} {s t : State} (he : EstInv s) (hi : i.opClass = .stimulus)
    (h : exec i s = .next t) (hr : i ≠ .rst) (hn : ¬ (i = .fall ∧ Emits s)) : ctrlView t = ctrlView s := by
  cases i with
  | adv n =>
    rw [exec_adv] at h
    cases h
    simp [ctrlView]
  | fall => exact fall_ctrlView_of_not_emits he h fun hE => hn ⟨rfl, hE⟩
  | rise | poll => cases h; rfl
  | rst => exact absurd rfl hr
  | getdc | setdc | setdiv | setrng | emit | evt => cases hi

/-- A stimulus operation other than `RST` that moves the controller's state is an emitting `FALL`, and leaves what CTRL
makes of the emitted sum (R150). -/
theorem emission_of_ctrlView_ne {i : Instr} {s t : State} (he : EstInv s) (hi : i.opClass = .stimulus)
    (h : exec i s = .next t) (hr : i ≠ .rst) (hne : ctrlView t ≠ ctrlView s) :
    i = .fall ∧ Emits s ∧ ctrlView t = ctrlView (ctrl (emittedSum s) s) := by
  by_cases hE : i = .fall ∧ Emits s
  · obtain ⟨rfl, hE⟩ := hE
    exact ⟨rfl, hE, fall_ctrlView_of_emits he h hE⟩
  · exact absurd (exec_ctrlView_of_no_emission he hi h hr hE) hne

/-- A window that changes `DC` is a correction step (R150, R155). -/
theorem corrects_of_dc_ne {S : Nat} {s : State} (hi : CtrlInv s) (h : (ctrl S s).dc ≠ s.dc) : Corrects S s := by
  rcases ctrl_rows hi S with hq | hb | hc
  · obtain ⟨l, g, b, a, -, hq⟩ := ctrl_of_quiet hq
    exact absurd (congrArg State.dc hq) h
  · exact absurd (congrArg State.dc (ctrl_of_spent hb)) h
  · exact hc

/-- A window that leads to `Unlocked` finds the budget spent (R151, R156). -/
theorem spent_of_ls_unlocked {S : Nat} {s : State} (hm : 1 ≤ s.cfg.maxAttempts) (hi : CtrlInv s)
    (h : (ctrl S s).ls = .unlocked) : Spent S s := by
  rcases ctrl_rows hi S with hq | hb | hc
  · obtain ⟨l, g, b, a, hl, hq⟩ := ctrl_of_quiet hq
    exact absurd ((congrArg State.ls hq).symm.trans h) hl
  · exact hb
  · rw [ctrl_of_corrects hm hi hc, applyStep_ls] at h
    cases h

/-! ### The window and the latest FrequencyError -/

/-- An emission leaves the new window, or an empty one where CTRL changed `DC` (R133, R157). -/
theorem fall_windowView_of_emits {s t : State} (he : EstInv s) (h : exec .fall s = .next t) (hE : Emits s) :
    windowView t = if t.dc = s.dc then (windowWith s (sampleNow s).bt, s.cfg.n, emittedSum s, 0) else ([], 0, 0, 0) := by
  have hdc : t.dc = (judged s).dc := by simp [eq_publish_of_fall h hE.1]
  rw [fall_windowView h hE.1, hdc, judged_of_emits he hE]
  exact ctrl_windowView (emittedSum s) (emitting s)

/-- A falling edge that accepts no sample leaves the window alone (R133). -/
theorem fall_windowView_of_not_accepted {s t : State} (he : EstInv s) (h : exec .fall s = .next t)
    (hn : ¬ SampleBearing s ∨ Glitch s (sampleNow s).bt) : windowView t = windowView s := by
  by_cases hs : SampleBearing s
  · have hg := hn.resolve_left (not_not.mpr hs)
    rw [fall_windowView h hs]
    rcases judged_cases he hs with ⟨-, -, hj⟩ | ⟨hng, -, -⟩ | ⟨hE, -⟩
    · rw [hj]; rfl
    · exact absurd hg hng
    · exact absurd hg hE.2.1
  · rw [fall_of_no_sample hs] at h
    cases h
    rfl

/-- An accepted sample that completes no window enters it (R133). -/
theorem fall_windowView_of_accepted {s t : State} (he : EstInv s) (h : exec .fall s = .next t) (hs : SampleBearing s)
    (hg : ¬ Glitch s (sampleNow s).bt) (hE : ¬ Emits s) : windowView t =
      (windowWith s (sampleNow s).bt, (windowWith s (sampleNow s).bt).length, (windowWith s (sampleNow s).bt).sum,
        s.fresh + 1) := by
  rw [fall_windowView h hs]
  rcases judged_cases he hs with ⟨hg', -, -⟩ | ⟨-, -, hj⟩ | ⟨hE', -⟩
  · exact absurd hg' hg
  · rw [hj]; rfl
  · exact absurd hE' hE

/-- An emission is the latest FrequencyError (R135). -/
theorem fall_fe_of_emits {s t : State} (he : EstInv s) (h : exec .fall s = .next t) (hE : Emits s) :
    t.feValid = true ∧ t.feSum = emittedSum s := by
  simp [eq_publish_of_fall h hE.1, judged_of_emits he hE, emitting]

/-- No other falling edge changes it. -/
theorem fall_fe_of_not_emits {s t : State} (he : EstInv s) (h : exec .fall s = .next t) (hE : ¬ Emits s) :
    t.feValid = s.feValid ∧ t.feSum = s.feSum := by
  by_cases hs : SampleBearing s
  · rw [eq_publish_of_fall h hs]
    rcases judged_cases he hs with ⟨-, -, hj⟩ | ⟨-, -, hj⟩ | ⟨hE', -⟩
    · simp [hj, passStart]
    · simp [hj, windowed, passStart]
    · exact absurd hE' hE
  · rw [fall_of_no_sample hs] at h
    cases h
    exact ⟨rfl, rfl⟩

end Sys2Proof.Machine

open Sys2Proof Sys2Proof.Machine

/-- Settles O23: only EST's emission calls CTRL, which reads nothing that EST wrote but the sum. -/
theorem controllerStateChangesOnlyAtAnEmission : Obligations.ControllerStateChangesOnlyAtAnEmission := by
  refine fun i s t hI hi h => ⟨fun hne => ?_, ?_⟩
  · by_cases hr : i = .rst
    · exact .inl hr
    · obtain ⟨hf, hE, -⟩ := emission_of_ctrlView_ne hI.estimator hi h hr hne
      exact .inr ⟨hf, hE⟩
  · rintro rfl hE
    exact fall_ctrlView_of_emits hI.estimator h hE

/-- Settles O24: CTRL changes `DC` in a correction step alone, which leaves the law's answer at both ends. -/
theorem driveConfigChangesOnlyWhileConverging : Obligations.DriveConfigChangesOnlyWhileConverging := by
  intro i s t hI hi h hr hne
  have hview : ctrlView t ≠ ctrlView s := fun hv => hne (dc_eq_of_ctrlView_eq hv)
  obtain ⟨rfl, hE, hv⟩ := emission_of_ctrlView_ne hI.estimator hi h hr hview
  have hc : Corrects (emittedSum s) s :=
    corrects_of_dc_ne hI.controller fun hdc => hne ((dc_eq_of_ctrlView_eq hv).trans hdc)
  rw [ctrlView_ctrl_of_corrects hI.cfg_valid.maxAttempts_pos hI.controller hI.drive hc] at hv
  simp only [ctrlView, Prod.mk.injEq] at hv
  obtain ⟨hls, -, -, -, hdc, hosc⟩ := hv
  have hw := fall_windowView_of_emits hI.estimator h hE
  rw [if_neg hne] at hw
  have hwin : t.win = [] := congrArg Prod.fst hw
  have hnl : s.ls ≠ .locked := by
    rcases hc.2 with hl | ⟨hl, -⟩ <;> simp [hl]
  exact ⟨rfl, hE, hc.1, hnl, hls, hdc, hosc.trans hdc.symm, hwin⟩

/-- Settles O25: CTRL leads to `Unlocked` in the BREAK event alone, whose record stands in the pass. -/
theorem unlockedIsReachedOnlyByBreakOrReset : Obligations.UnlockedIsReachedOnlyByBreakOrReset := by
  intro i s t hI hi h hne hl
  by_cases hr : i = .rst
  · exact .inl hr
  have hview : ctrlView t ≠ ctrlView s := fun hv => hne ((ls_eq_of_ctrlView_eq hv).symm.trans hl)
  obtain ⟨rfl, hE, hv⟩ := emission_of_ctrlView_ne hI.estimator hi h hr hview
  have hb : Spent (emittedSum s) s :=
    spent_of_ls_unlocked hI.cfg_valid.maxAttempts_pos hI.controller ((ls_eq_of_ctrlView_eq hv).symm.trans hl)
  have hdc : t.dc = s.dc := (dc_eq_of_ctrlView_eq hv).trans (by rw [ctrl_of_spent hb])
  obtain ⟨hbt, hbl, hba⟩ := id hb
  refine .inr ⟨rfl, hE, hbt, hbl, hba, ?_, hdc⟩
  rw [fall_out hI.estimator h hE.1, List.drop_left, mem_fallRecords_iff hI]
  exact .inr (.inl ⟨⟨hE, hb⟩, rfl⟩)

/-- Settles O32: the records of the pass, CTRL's among them only at an emission. -/
theorem fallRecordsInStageOrder : Obligations.FallRecordsInStageOrder := by
  intro s t hI h hs
  refine ⟨if Emits s then ctrlRecords s (emittedSum s) else [], ?_, fun r hr => ?_, fun hg => ?_, ?_⟩
  · split
    · exact length_ctrlRecords_le hI _
    · exact Nat.zero_le 1
  · rw [List.mem_ite_nil_right, mem_ctrlRecords_iff hI.cfg_valid.maxAttempts_pos hI.controller] at hr
    rcases hr.2 with ⟨-, hr⟩ | ⟨-, hr⟩
    · exact .inl hr
    · rcases mem_applyRecords hr with ⟨hr, -⟩ | ⟨hr, -⟩ | ⟨hr, -⟩ <;> exact .inr ⟨_, hr⟩
  · exact if_neg fun hE => hE.2.1 hg
  · rw [fall_out hI.estimator h hs, fallRecords, codeFor_eq, apply_ite OutRec.emit]
    simp only [List.append_assoc]

/-- Settles O35: each part that a stage writes is written only in the case that runs the stage. -/
theorem fallLeavesTheRestUnchanged : Obligations.FallLeavesTheRestUnchanged := by
  intro s t hI h
  obtain ⟨hcfg, hin, htick, hrising, hprev, hnrise, harmed, hhandoff, hpolls, hresp⟩ := fall_frame h
  refine ⟨hcfg, hin, htick, hrising, hprev, hnrise, harmed, hhandoff, hpolls, hresp, fall_tx_of_not_boundary h,
    fun hE => ?_, fall_fe_of_emits hI.estimator h, fun hn => ?_⟩
  · obtain ⟨hvalid, hsum⟩ := fall_fe_of_not_emits hI.estimator h hE
    have hview := fall_ctrlView_of_not_emits hI.estimator h hE
    exact ⟨hvalid, hsum, dc_eq_of_ctrlView_eq hview, oscDc_eq_of_ctrlView_eq hview⟩
  · have hview := fall_windowView_of_not_accepted hI.estimator h hn
    simpa only [windowView, Prod.mk.injEq] using hview

/-- Settles O50: the window by what EST did with the sample and CTRL with `DC`, the transmitter by SIG. -/
theorem fallFeedsTheWindowAndTheSignaler : Obligations.FallFeedsTheWindowAndTheSignaler := by
  intro s t hI h hs w
  refine ⟨fall_windowView_of_accepted hI.estimator h hs, fun hE hdc => ⟨?_, ?_⟩, fun hE hdc => ?_, fun hb => ?_⟩
  · exact windowWith_length_of_fresh hI.estimator hE.2.2 _
  · exact (fall_windowView_of_emits hI.estimator h hE).trans (if_pos hdc)
  · exact (fall_windowView_of_emits hI.estimator h hE).trans (if_neg hdc)
  · rw [← codeFor_eq]
    exact fall_tx_of_boundary h hb

/-- Settles O31: the records are those of a pass, each with its cause, or those of `RST`, or none. -/
theorem eventsAndCommandsAreRecordedExactlyWhereRaised :
    Obligations.EventsAndCommandsAreRecordedExactlyWhereRaised := by
  intro i s t hI hi h
  by_cases hr : i = .rst
  · subst hr
    rw [exec_rst] at h
    cases h
    exact ⟨[.reset, .cmd .getdc], rfl, by simp [Command.instr]⟩
  by_cases hp : i = .fall ∧ SampleBearing s
  · obtain ⟨rfl, hs⟩ := hp
    refine ⟨fallRecords s t, fall_out hI.estimator h hs, ?_, ?_, ?_, ?_, fun d => ?_, fun ds => ?_, ?_, ?_, fun r => ?_,
      fun c => wellFormed_of_cmd_mem_fallRecords hI, length_fallRecords_le hI t⟩
    all_goals simp only [mem_fallRecords_iff hI, reduceCtorEq, OutRec.evt.injEq, OutRec.cmd.injEq, Command.setdiv.injEq,
      Command.setdc.injEq, and_false, or_false, false_or, and_true, true_and, not_false_eq_true]
    · exact (and_iff_right hs).symm
    · rfl
    · exact and_assoc
    · exact and_assoc
  · have noRecord {r : OutRec} {p : Prop} (hs : p → SampleBearing s) : r ∈ ([] : List OutRec) ↔ i = .fall ∧ p :=
      iff_of_false List.not_mem_nil fun ⟨hf, hq⟩ => hp ⟨hf, hs hq⟩
    exact ⟨[], by rw [exec_out_of_no_pass hi h hr hp, List.append_nil], noRecord fun h => h.1, noRecord fun h => h.1.1,
      noRecord fun h => h.1.1, List.not_mem_nil, fun _ => noRecord fun h => h.1.1.1, fun _ => noRecord fun h => h.1.1.1,
      iff_of_false List.not_mem_nil hr, iff_of_false List.not_mem_nil hr, fun _ => List.not_mem_nil,
      fun _ h => absurd h List.not_mem_nil, Nat.zero_le 3⟩
end

section
/-! SUPPORT. The reader context and the histories across every operation: no stage reads or writes the reader's part
(45_cross_core_and_capability.md sections 3 and 6, 60_exceptions.md section 5). -/

namespace Sys2Proof.Machine

/-! ### Who writes the reader's part -/

/-- Only `POLL` and `RST` touch `HANDOFF`, and only `POLL` the results (R216, R217). -/
theorem exec_reader_of_ne_poll_rst {i : Instr} {s t : State} (h : exec i s = .next t) (hp : i ≠ .poll) (hr : i ≠ .rst) :
    t.handoff = s.handoff ∧ t.polls = s.polls := by
  cases i with
  | adv n =>
    rw [exec_adv] at h
    cases h
    simp
  | fall =>
    by_cases hs : SampleBearing s
    · rw [fall_of_sample hs] at h
      cases h
      simp
    · rw [fall_of_no_sample hs] at h
      cases h
      exact ⟨rfl, rfl⟩
  | rst => exact absurd rfl hr
  | poll => exact absurd rfl hp
  | setdiv d =>
    rw [eq_devSetdiv_of_exec_setdiv h]
    exact ⟨rfl, rfl⟩
  | emit c =>
    cases h
    simp
  | rise | getdc | setdc | setrng | evt => cases h; exact ⟨rfl, rfl⟩

/-! ### The histories -/

/-- Every operation keeps the configuration and the operations still to come, and extends the two histories. -/
theorem exec_histories {i : Instr} {s t : State} (h : exec i s = .next t) :
    t.cfg = s.cfg ∧ t.input = s.input ∧ s.out <+: t.out ∧ s.polls <+: t.polls := by
  cases i with
  | adv n =>
    rw [exec_adv] at h
    cases h
    simp
  | fall =>
    by_cases hs : SampleBearing s
    · rw [fall_of_sample hs] at h
      cases h
      simp [runPass_out]
    · rw [fall_of_no_sample hs] at h
      cases h
      simp
  | rst =>
    rw [exec_rst] at h
    cases h
    exact ⟨rfl, rfl, List.prefix_append .., List.prefix_rfl⟩
  | poll => cases h; exact ⟨rfl, rfl, List.prefix_rfl, List.prefix_append ..⟩
  | setdiv d =>
    rw [eq_devSetdiv_of_exec_setdiv h]
    exact ⟨rfl, rfl, List.prefix_rfl, List.prefix_rfl⟩
  | emit c =>
    cases h
    simp
  | evt k => cases h; exact ⟨rfl, rfl, List.prefix_append .., List.prefix_rfl⟩
  | rise | getdc | setdc | setrng => cases h; exact ⟨rfl, rfl, List.prefix_rfl, List.prefix_rfl⟩

/-! ### No stage reads the reader's part

Each function commutes with a replacement of the reader's part. -/

section
variable (s : State) (h : Bool) (p : List PubWords)

@[simp] theorem slide_withReaderState : slide (withReaderState s h p) = withReaderState (slide s) h p := by
  unfold slide
  by_cases hc : s.cnt = s.cfg.n
  · rw [if_pos hc]; exact if_pos hc
  · rw [if_neg hc]; exact if_neg hc

@[simp] theorem emission_withReaderState :
    emission (withReaderState s h p) = ((emission s).1, withReaderState (emission s).2 h p) := by
  by_cases hn : s.fresh = s.cfg.n
  · rw [emission_of_fresh_eq hn]; exact emission_of_fresh_eq hn
  · rw [emission_of_fresh_ne hn]; exact emission_of_fresh_ne hn

@[simp] theorem est_withReaderState (bt : Nat) :
    est bt (withReaderState s h p) = ((est bt s).1, withReaderState (est bt s).2 h p) := by
  by_cases hg : Glitch s bt
  · rw [est_of_glitch hg]; exact est_of_glitch hg
  · rw [est_of_not_glitch hg, est_of_not_glitch (s := withReaderState s h p) hg, slide_withReaderState]
    exact emission_withReaderState (appendSample bt (slide s)) h p

@[simp] theorem issueIf_withReaderState (b : Bool) (c : Command) :
    issueIf b c (withReaderState s h p) = withReaderState (issueIf b c s) h p := by
  cases b
  · rfl
  · cases c <;> rfl

@[simp] theorem applyDc_withReaderState (d : DriveConfig) :
    applyDc d (withReaderState s h p) = withReaderState (applyDc d s) h p := by
  unfold applyDc
  by_cases hd : d ≠ s.dc
  · rw [if_pos hd]; exact if_pos hd
  · rw [if_neg hd]; exact if_neg hd

@[simp] theorem applyStep_withReaderState (d : DriveConfig) :
    applyStep d (withReaderState s h p) = withReaderState (applyStep d s) h p := by
  simp only [applyStep, issueIf_withReaderState, applyDc_withReaderState]
  rfl

@[simp] theorem ctrlLocked_withReaderState (S : Nat) :
    ctrlLocked S (withReaderState s h p) = withReaderState (ctrlLocked S s) h p := by
  by_cases ht : InTol s.cfg S
  · rw [ctrlLocked_of_inTol ht]; exact ctrlLocked_of_inTol ht
  · by_cases hb : s.bad + 1 = s.cfg.m
    · rw [ctrlLocked_of_last_bad ht hb]; exact ctrlLocked_of_last_bad ht hb
    · rw [ctrlLocked_of_bad ht hb]; exact ctrlLocked_of_bad ht hb

@[simp] theorem ctrlConverging_withReaderState (S : Nat) :
    ctrlConverging S (withReaderState s h p) = withReaderState (ctrlConverging S s) h p := by
  by_cases ht : InTol s.cfg S
  · by_cases hg : s.good + 1 = s.cfg.m
    · rw [ctrlConverging_of_last_good ht hg]; exact ctrlConverging_of_last_good ht hg
    · rw [ctrlConverging_of_good ht hg]; exact ctrlConverging_of_good ht hg
  · by_cases ha : s.attempts = s.cfg.maxAttempts
    · rw [ctrlConverging_of_spent ht ha]; exact ctrlConverging_of_spent ht ha
    · rw [ctrlConverging_of_budget ht ha, ctrlConverging_of_budget (s := withReaderState s h p) ht ha]
      exact applyStep_withReaderState { s with good := 0, attempts := s.attempts + 1 } h p _

@[simp] theorem ctrl_withReaderState (S : Nat) :
    ctrl S (withReaderState s h p) = withReaderState (ctrl S s) h p := by
  cases hl : s.ls with
  | locked => rw [ctrl_of_locked hl, ctrl_of_locked (s := withReaderState s h p) hl, ctrlLocked_withReaderState]
  | converging =>
    rw [ctrl_of_converging hl, ctrl_of_converging (s := withReaderState s h p) hl, ctrlConverging_withReaderState]
  | unlocked =>
    rw [ctrl_of_unlocked hl, ctrl_of_unlocked (s := withReaderState s h p) hl]
    exact ctrlConverging_withReaderState (enterLockState .converging s) h p S

@[simp] theorem ctrlIfEmitted_withReaderState (r : Option Nat) :
    ctrlIfEmitted (r, withReaderState s h p) = withReaderState (ctrlIfEmitted (r, s)) h p := by
  cases r with
  | none => rfl
  | some S => exact ctrl_withReaderState s h p S

@[simp] theorem frame_withReaderState :
    frame (withReaderState s h p) = ((frame s).1, withReaderState (frame s).2 h p) := by
  unfold frame
  by_cases hb : s.bitcnt + 1 = s.cfg.frameBits
  · rw [if_pos hb]; exact if_pos hb
  · rw [if_neg hb]; exact if_neg hb

@[simp] theorem sendCode_withReaderState (c : StatusCode) :
    sendCode c (withReaderState s h p) = withReaderState (sendCode c s) h p := by
  rw [sendCode_eq, sendCode_eq]
  rfl

@[simp] theorem sigIfBoundary_withReaderState (b : Bool) :
    sigIfBoundary (b, withReaderState s h p) = withReaderState (sigIfBoundary (b, s)) h p := by
  cases b with
  | false => rfl
  | true => exact sendCode_withReaderState s h p (codeFor s.ls)

theorem runPass_withReaderState (b : BitSample) :
    runPass b (withReaderState s h p) = withReaderState (runPass b s) h p := by
  have hrec : recordSample b (withReaderState s h p) = withReaderState (recordSample b s) h p := rfl
  simp only [runPass, hrec, est_withReaderState, ctrlIfEmitted_withReaderState, frame_withReaderState,
    sigIfBoundary_withReaderState]
  rfl

theorem txAdv_withReaderState (n : Nat) : txAdv n (withReaderState s h p) = withReaderState (txAdv n s) h p := by
  rw [txAdv_eq, txAdv_eq]
  rfl

end

/-- Every operation but `POLL` and `RST` commutes with a replacement of the reader's part. -/
theorem exec_withReaderState {i : Instr} {s t : State} (h : exec i s = .next t) (hp : i ≠ .poll) (hr : i ≠ .rst)
    (b : Bool) (p : List PubWords) : exec i (withReaderState s b p) = .next (withReaderState t b p) := by
  cases i with
  | adv n =>
    rw [exec_adv] at h
    cases h
    rw [exec_adv, ← txAdv_withReaderState]
    rfl
  | fall =>
    by_cases hs : SampleBearing s
    · rw [fall_of_sample hs] at h
      cases h
      rw [fall_of_sample (s := withReaderState s b p) hs]
      exact congrArg Host.Outcome.next (runPass_withReaderState { s with armed := false } b p (sampleNow s))
    · rw [fall_of_no_sample hs] at h
      cases h
      exact fall_of_no_sample (s := withReaderState s b p) hs
  | rst => exact absurd rfl hr
  | poll => exact absurd rfl hp
  | setdiv d =>
    have hd : 1 ≤ d.toNat ∧ d.toNat ≤ 32 := by
      by_contra hd
      rw [exec_setdiv_of_invalid hd] at h
      cases h
    rw [exec_setdiv_of_valid hd] at h
    cases h
    exact exec_setdiv_of_valid hd _
  | emit c =>
    cases h
    exact congrArg Host.Outcome.next (sendCode_withReaderState s b p c)
  | rise | getdc | setdc | setrng | evt => cases h; rfl

end Sys2Proof.Machine

open Sys2Proof Sys2Proof.Machine

/-- Settles O38: `POLL` only raises the flag, `RST` clears it, nothing else touches it. -/
theorem handoffIsOneShotAndIrrevocable : Obligations.HandoffIsOneShotAndIrrevocable := by
  intro i s t h
  by_cases hp : i = .poll
  · subst hp
    rw [exec_poll] at h
    cases h
    refine ⟨fun hs _ => ?_, fun hs ht => ⟨rfl, ?_⟩, fun hr => nomatch hr⟩
    · simp [hs]
    · simpa [hs] using ht
  by_cases hr : i = .rst
  · subst hr
    have hf : t.handoff = false := by cases h; rfl
    exact ⟨fun _ hr => absurd rfl hr, fun _ ht => absurd (hf.symm.trans ht) (by decide), fun _ => hf⟩
  obtain ⟨hh, -⟩ := exec_reader_of_ne_poll_rst h hp hr
  exact ⟨fun hs _ => hh.trans hs, fun hs ht => absurd (hh.symm.trans ht) (by simp [hs]), fun hr' => absurd hr' hr⟩

/-- Settles O39: `POLL` and `RST` do not read the reader's part outside it, and the others commute with its replacement. -/
theorem readerNeverDisturbsTheBlock : Obligations.ReaderNeverDisturbsTheBlock := by
  refine ⟨fun i s t b p h => ?_, fun s t h => ?_⟩
  · by_cases hp : i = .poll
    · subst hp
      cases h
      exact ⟨_, rfl, rfl⟩
    by_cases hr : i = .rst
    · subst hr
      cases h
      exact ⟨_, rfl, rfl⟩
    · exact ⟨_, exec_withReaderState h hp hr b p, rfl⟩
  · cases h
    rfl

/-- Settles O44: by what each operation does to these four. -/
theorem configurationIsFixedAndHistoriesGrow : Obligations.ConfigurationIsFixedAndHistoriesGrow :=
  fun _ _ _ h => exec_histories h
end

section
/-! SUPPORT. The invariants part by part across a stimulus operation, and at reset (10_state.md section 10). -/

namespace Sys2Proof.Machine

/-! ### What each part speaks of -/

/-- The controller's counters are in range if the configuration and its state are those of a state where they are. -/
theorem CtrlInv.congr {s t : State} (h : CtrlInv s) (hcfg : t.cfg = s.cfg) (hview : ctrlView t = ctrlView s) :
    CtrlInv t := by
  simp only [ctrlView, Prod.mk.injEq] at hview
  obtain ⟨hls, hgood, hbad, hatt, -, -⟩ := hview
  constructor
  · rw [hgood, hcfg]; exact h.good_lt
  · rw [hbad, hcfg]; exact h.bad_lt
  · rw [hatt, hcfg]; exact h.attempts_le
  · rw [hls, hgood]; exact h.good_zero
  · rw [hls, hbad]; exact h.bad_zero
  · rw [hls, hatt]; exact h.attempts_zero

/-- The two DriveConfigs agree and are valid if they are those of a state where they are. -/
theorem DriveInv.congr {s t : State} (h : DriveInv s) (hview : ctrlView t = ctrlView s) : DriveInv t := by
  have hdc := dc_eq_of_ctrlView_eq hview
  exact ⟨hdc ▸ h.dc_valid, (oscDc_eq_of_ctrlView_eq hview).trans (h.osc_eq.trans hdc.symm)⟩

/-! ### The estimator -/

/-- An accepted bit time below 2^W leaves a window of such times. -/
theorem windowWith_lt {s : State} (h : EstInv s) {bt : Nat} (hbt : bt < s.cfg.modulus) :
    ∀ x ∈ windowWith s bt, x < s.cfg.modulus := by
  intro x hx
  rcases List.mem_append.mp hx with hx | hx
  · apply h.win_lt
    split at hx
    · exact List.mem_of_mem_tail hx
    · exact hx
  · rwa [List.mem_singleton.mp hx]

/-- Room is made for an accepted bit time, so that the window holds it among its new ones (I2). -/
theorem windowWith_length_bounds {s : State} (h : EstInv s) (bt : Nat) :
    (windowWith s bt).length ≤ s.cfg.n ∧ s.fresh + 1 ≤ (windowWith s bt).length := by
  have hcnt := h.cnt_le
  have hfresh := h.fresh_le
  have hlt := h.fresh_lt
  rw [(windowWith_length_sum h bt).1]
  split <;> omega

/-- The sum of bit times below 2^W. -/
theorem sum_lt_of_forall_lt {l : List Nat} {n m : Nat} (hl : l.length = n) (hn : 0 < n) (h : ∀ x ∈ l, x < m) :
    l.sum < n * m := by
  subst hl
  have hne : l ≠ [] := List.ne_nil_of_length_pos hn
  simpa using List.sum_lt_sum_of_ne_nil hne (fun x => x) (fun _ => m) h

/-- The bit time of a completed sample is a W-bit number. -/
theorem sampleNow_bt_lt (s : State) : (sampleNow s).bt < s.cfg.modulus := wrapSafeDiff_lt ..

/-- An accepted sample that completes no window keeps the estimator's invariants. -/
theorem estInv_windowed {s : State} (h : EstInv s) (hn : s.fresh + 1 ≠ s.cfg.n) : EstInv (windowed s) where
  cnt_eq := rfl
  cnt_le := (windowWith_length_bounds h _).1
  fresh_le := (windowWith_length_bounds h _).2
  fresh_lt := Nat.lt_of_le_of_ne h.fresh_lt hn
  sum_eq := rfl
  win_lt := windowWith_lt h (sampleNow_bt_lt s)
  feSum_lt := h.feSum_lt

/-- So does one that completes a window. -/
theorem estInv_emitting {s : State} (h : EstInv s) (hn : s.fresh + 1 = s.cfg.n) : EstInv (emitting s) :=
  have hpos : 0 < s.cfg.n := Nat.zero_lt_of_lt h.fresh_lt
  have hlen := windowWith_length_of_fresh h hn (sampleNow s).bt
  have hlt := windowWith_lt h (sampleNow_bt_lt s)
  { cnt_eq := hlen.symm
    cnt_le := le_rfl
    fresh_le := Nat.zero_le _
    fresh_lt := hpos
    sum_eq := rfl
    win_lt := hlt
    feSum_lt := sum_lt_of_forall_lt hlen hpos hlt }

/-- CTRL keeps the window or empties it. -/
theorem estInv_ctrl {s : State} (h : EstInv s) (S : Nat) : EstInv (ctrl S s) := by
  have hview := ctrl_windowView S s
  by_cases hdc : (ctrl S s).dc = s.dc
  · rw [if_pos hdc] at hview
    exact h.congr (ctrl_cfg S s) hview (ctrl_feSum S s)
  · rw [if_neg hdc] at hview
    have hempty : EstInv (wreset s) :=
      ⟨rfl, Nat.zero_le _, le_rfl, Nat.zero_lt_of_lt h.fresh_lt, rfl, by simp, h.feSum_lt⟩
    exact hempty.congr (ctrl_cfg S s) hview (ctrl_feSum S s)

/-- EST and CTRL keep the estimator's invariants. -/
theorem estInv_judged {s : State} (h : EstInv s) (hs : SampleBearing s) : EstInv (judged s) := by
  rcases judged_cases h hs with ⟨-, -, hj⟩ | ⟨hg, hE, hj⟩ | ⟨hE, hj⟩
  · exact h.congr (judged_cfg s) (by rw [hj]; rfl) (by rw [hj]; rfl)
  · rw [hj]
    exact estInv_windowed h fun hn => hE ⟨hs, hg, hn⟩
  · rw [hj]
    exact estInv_ctrl (estInv_emitting h hE.2.2) _

/-! ### The controller -/

/-- A lock state and counters in the ranges of (I4), 0 in the lock states that do not use them. -/
def CountersOk (c : Config) : LockState × Nat × Nat × Nat → Prop
  | (l, g, b, a) => g < c.m ∧ b < c.m ∧ a ≤ c.maxAttempts ∧ (l ≠ .converging → g = 0 ∧ a = 0) ∧ (l ≠ .locked → b = 0)

/-- Which is what the invariant says of a state's. -/
theorem ctrlInv_iff (s : State) : CtrlInv s ↔ CountersOk s.cfg (lockView s) := by
  constructor
  · intro h
    exact ⟨h.good_lt, h.bad_lt, h.attempts_le, fun hl => ⟨h.good_zero hl, h.attempts_zero hl⟩, h.bad_zero⟩
  · rintro ⟨hg, hb, ha, hconv, hlocked⟩
    exact ⟨hg, hb, ha, fun hl => (hconv hl).1, hlocked, fun hl => (hconv hl).2⟩

/-- CTRL keeps the counters in range, row by row of its table (I4, R151). -/
theorem ctrlInv_ctrl {s : State} (hc : s.cfg.Valid) (h : CtrlInv s) (S : Nat) : CtrlInv (ctrl S s) := by
  obtain ⟨unlIn, unlOut, convIn, convOut, lockIn, lockOut, -, -⟩ := lockStateTransitionsAreTheTable s S hc h
  have hm := hc.m_pos
  have hmax := hc.maxAttempts_pos
  have hgood := h.good_lt
  have hbad := h.bad_lt
  have hatt := h.attempts_le
  have keep {v : LockState × Nat × Nat × Nat} (row : lockView (ctrl S s) = v) (hv : CountersOk s.cfg v) :
      CtrlInv (ctrl S s) := (ctrlInv_iff _).mpr (by rwa [ctrl_cfg, row])
  by_cases ht : InTol s.cfg S
  · cases hl : s.ls with
    | unlocked => exact keep (unlIn hl ht) (by split_ifs <;> simp [CountersOk] <;> omega)
    | converging => exact keep (convIn hl ht) (by split_ifs <;> simp [CountersOk] <;> omega)
    | locked => exact keep (lockIn hl ht) (by simp [CountersOk]; omega)
  · cases hl : s.ls with
    | unlocked => exact keep (unlOut hl ht) (by simp [CountersOk]; omega)
    | converging => exact keep (convOut hl ht) (by split_ifs <;> simp [CountersOk] <;> omega)
    | locked => exact keep (lockOut hl ht) (by split_ifs <;> simp [CountersOk] <;> omega)

/-- CTRL keeps the two DriveConfigs equal and valid (I1). -/
theorem driveInv_ctrl {s : State} (hc : s.cfg.Valid) (hlaw : LawOk s.cfg) (hi : CtrlInv s) (h : DriveInv s) (S : Nat) :
    DriveInv (ctrl S s) := by
  rcases ctrl_rows hi S with hq | hb | hcorr
  · obtain ⟨l, g, b, a, -, hq⟩ := ctrl_of_quiet hq
    rw [hq]
    exact ⟨h.dc_valid, h.osc_eq⟩
  · rw [ctrl_of_spent hb]
    exact ⟨h.dc_valid, h.osc_eq⟩
  · have hview := ctrlView_ctrl_of_corrects hc.maxAttempts_pos hi h hcorr
    simp only [ctrlView, Prod.mk.injEq] at hview
    obtain ⟨-, -, -, -, hdc, hosc⟩ := hview
    exact ⟨hdc ▸ (hlaw _ _ h.dc_valid hcorr.1).1, hosc.trans hdc.symm⟩

/-! ### The transmitter -/

/-- Time keeps the transmitter's invariants (I5). -/
theorem txInv_txAdv {s : State} (h : TxInv s) (n : Nat) : TxInv (txAdv n s) := by
  cases ha : s.txActive with
  | false => rwa [txAdv_of_idle ha]
  | true =>
    by_cases hsent : CodeSent s.cfg (s.txElapsed + n)
    · rw [txAdv_of_sent ha hsent]
      exact ⟨fun _ => rfl, Nat.zero_lt_of_lt h.elapsed_lt⟩
    · rw [txAdv_of_not_sent ha hsent]
      exact ⟨fun hidle => absurd (ha.symm.trans hidle) (by decide), Nat.lt_of_not_le hsent⟩

/-- So does a falling edge: a code started at a boundary is at its first tick. -/
theorem txInv_fall {s t : State} (h : TxInv s) (hfall : exec .fall s = .next t) (hcfg : t.cfg = s.cfg) : TxInv t := by
  by_cases hb : Boundary s
  · obtain ⟨-, -, helapsed⟩ := fall_tx_of_boundary hfall hb
    exact ⟨fun _ => helapsed, by rw [helapsed, hcfg]; exact Nat.zero_lt_of_lt h.elapsed_lt⟩
  · obtain ⟨hactive, -, helapsed⟩ := fall_tx_of_not_boundary hfall hb
    exact ⟨by rw [hactive, helapsed]; exact h.idle_zero, by rw [helapsed, hcfg]; exact h.elapsed_lt⟩

/-! ### Every stimulus operation -/

/-- The reset state of a valid configuration has the invariants, whatever the history is (R44). -/
theorem inv_resetOf {c : Config} (hc : c.Valid) (hlaw : LawOk c) {input : List Issue}
    (hin : ∀ x ∈ input, x.port = OpClass.stimulus) (polls : List PubWords) (out : List OutRec) :
    Inv { State.resetOf c with input := input, polls := polls, out := out } where
  cfg_valid := hc
  law_ok := hlaw
  stimulus_only := hin
  capture := ⟨hc.tickReset_lt, c.modulus_pos, c.modulus_pos, c.modulus_pos, c.modulus_pos, fun _ => rfl,
    fun h => nomatch h⟩
  estimator := ⟨rfl, Nat.zero_le _, le_rfl, hc.n_pos, rfl, by simp [State.resetOf], Nat.mul_pos hc.n_pos c.modulus_pos⟩
  controller := ⟨hc.m_pos, hc.m_pos, Nat.zero_le _, fun _ => rfl, fun _ => rfl, fun _ => rfl⟩
  drive := ⟨hc.driveReset_valid, rfl⟩
  bitcnt_lt := Nat.lt_of_lt_of_eq (by decide : 0 < 32) hc.frameBits_fixed.symm
  transmitter := ⟨fun _ => rfl, Nat.mul_pos hc.codeLen_pos hc.symbolTicks_pos⟩
  pub_eq := rfl
  handoff_seen := fun h => nomatch h

/-- A falling edge keeps the capture registers in range, and a recorded sample has seen two rising edges (I8). -/
theorem captureInv_fall {s t : State} (hI : Inv s) (h : exec .fall s = .next t) : CaptureInv t := by
  obtain ⟨htick, hrising, hprev, hbt, hpw, -, hsample⟩ := hI.capture
  by_cases hs : SampleBearing s
  · obtain ⟨hcfg, -, htick', hrising', hprev', hnrise, harmed, -⟩ := fall_frame h
    obtain ⟨-, hbt', hpw', -⟩ := (everyPassPublishesItsOwnState .fall s t h).1 rfl hs
    exact ⟨by rwa [htick', hcfg], by rwa [hrising', hcfg], by rwa [hprev', hcfg],
      by rw [hbt', hcfg]; exact wrapSafeDiff_lt .., by rw [hpw', hcfg]; exact wrapSafeDiff_lt ..,
      fun _ => harmed, fun _ => hnrise.trans hs.2⟩
  · rw [fall_of_no_sample hs] at h
    cases h
    exact ⟨htick, hrising, hprev, hbt, hpw, fun _ => rfl, hsample⟩

/-- A falling edge that completes a sample keeps the invariants. -/
theorem inv_fall_of_sample {s t : State} (hI : Inv s) (h : exec .fall s = .next t) (hs : SampleBearing s) : Inv t := by
  obtain ⟨hcfg, hin, -, -, -, -, -, hhandoff, hpolls, -⟩ := fall_frame h
  have hctrl : CtrlInv t ∧ DriveInv t := by
    by_cases hE : Emits s
    · have hview := fall_ctrlView_of_emits hI.estimator h hE
      exact ⟨(ctrlInv_ctrl hI.cfg_valid hI.controller _).congr (hcfg.trans (ctrl_cfg _ s).symm) hview,
        (driveInv_ctrl hI.cfg_valid hI.law_ok hI.controller hI.drive _).congr hview⟩
    · have hview := fall_ctrlView_of_not_emits hI.estimator h hE
      exact ⟨hI.controller.congr hcfg hview, hI.drive.congr hview⟩
  exact
    { cfg_valid := hcfg ▸ hI.cfg_valid
      law_ok := hcfg ▸ hI.law_ok
      stimulus_only := hin ▸ hI.stimulus_only
      capture := captureInv_fall hI h
      estimator := (estInv_judged hI.estimator hs).congr (hcfg.trans (judged_cfg s).symm) (fall_windowView h hs)
        (by simp [eq_publish_of_fall h hs])
      controller := hctrl.1
      drive := hctrl.2
      bitcnt_lt := by
        rw [exec_fall_bitcnt_of_sample h hs hI.bitcnt_lt, hcfg]
        exact Nat.mod_lt _ (Nat.zero_lt_of_lt hI.bitcnt_lt)
      transmitter := txInv_fall hI.transmitter h hcfg
      pub_eq := by rw [eq_publish_of_fall h hs]; rfl
      handoff_seen := by rw [hhandoff, hpolls]; exact hI.handoff_seen }

/-- One that completes none only disarms. -/
theorem inv_fall_of_no_sample {s t : State} (hI : Inv s) (h : exec .fall s = .next t) (hs : ¬ SampleBearing s) :
    Inv t := by
  have hcap := captureInv_fall hI h
  rw [fall_of_no_sample hs] at h
  cases h
  exact
    { hI with
      capture := hcap
      estimator := hI.estimator.congr rfl rfl rfl
      controller := hI.controller.congr rfl rfl
      drive := hI.drive.congr rfl
      transmitter := ⟨hI.transmitter.idle_zero, hI.transmitter.elapsed_lt⟩ }

/-- `ADV` keeps the invariants: the counter stays below 2^W. -/
theorem inv_adv {s : State} (hI : Inv s) (n : Nat) : Inv (txAdv n (tickAdv n s)) := by
  have htx : TxInv (txAdv n (tickAdv n s)) :=
    txInv_txAdv (s := tickAdv n s) ⟨hI.transmitter.idle_zero, hI.transmitter.elapsed_lt⟩ n
  rw [txAdv_eq] at htx ⊢
  obtain ⟨-, hrising, hprev, hbt, hpw, hunarmed, hsample⟩ := hI.capture
  exact
    { hI with
      capture := ⟨Nat.mod_lt _ s.cfg.modulus_pos, hrising, hprev, hbt, hpw, hunarmed, hsample⟩
      estimator := hI.estimator.congr rfl rfl rfl
      controller := hI.controller.congr rfl rfl
      drive := hI.drive.congr rfl
      transmitter := htx }

/-- `RISE` keeps the invariants: after it an edge has been seen, and two where two had been. -/
theorem inv_rise {s t : State} (hI : Inv s) (h : exec .rise s = .next t) : Inv t := by
  rw [exec_rise] at h
  cases h
  have hseen : ∀ n : Fin 3, countRise n ≠ 0 := by decide
  have htwo : countRise 2 = 2 := by decide
  obtain ⟨htick, hrising, -, hbt, hpw, -, hsample⟩ := hI.capture
  exact
    { hI with
      capture := ⟨htick, htick, hrising, hbt, hpw, fun h => absurd h (hseen _),
        fun h => (congrArg countRise (hsample h)).trans htwo⟩
      estimator := hI.estimator.congr rfl rfl rfl
      controller := hI.controller.congr rfl rfl
      drive := hI.drive.congr rfl
      transmitter := ⟨hI.transmitter.idle_zero, hI.transmitter.elapsed_lt⟩ }

/-- `POLL` keeps the invariants: the result that raises `HANDOFF` is among those kept, and shows `Locked` (I7). -/
theorem inv_poll {s t : State} (hI : Inv s) (h : exec .poll s = .next t) : Inv t := by
  rw [exec_poll] at h
  cases h
  obtain ⟨htick, hrising, hprev, hbt, hpw, hunarmed, hsample⟩ := hI.capture
  exact
    { hI with
      capture := ⟨htick, hrising, hprev, hbt, hpw, hunarmed, hsample⟩
      estimator := hI.estimator.congr rfl rfl rfl
      controller := hI.controller.congr rfl rfl
      drive := hI.drive.congr rfl
      transmitter := ⟨hI.transmitter.idle_zero, hI.transmitter.elapsed_lt⟩
      handoff_seen := fun h => by
        rcases Bool.or_eq_true_iff.mp h with h | h
        · obtain ⟨w, hw, hl⟩ := hI.handoff_seen h
          exact ⟨w, List.mem_append_left _ hw, hl⟩
        · refine ⟨s.pub.words, List.mem_append_right _ List.mem_cons_self, ?_⟩
          rw [PubWords.lsField, Snapshot.words_pub0_ls, of_decide_eq_true h] }

/-- Every stimulus operation keeps the invariants. -/
theorem inv_exec {i : Instr} {s t : State} (hI : Inv s) (hi : i.opClass = .stimulus) (h : exec i s = .next t) :
    Inv t := by
  cases i with
  | adv n =>
    rw [exec_adv] at h
    cases h
    exact inv_adv hI n.toNat
  | rise => exact inv_rise hI h
  | fall =>
    by_cases hs : SampleBearing s
    · exact inv_fall_of_sample hI h hs
    · exact inv_fall_of_no_sample hI h hs
  | rst =>
    rw [exec_rst] at h
    cases h
    exact inv_resetOf hI.cfg_valid hI.law_ok hI.stimulus_only _ _
  | poll => exact inv_poll hI h
  | getdc | setdc | setdiv | setrng | emit | evt => cases hi

end Sys2Proof.Machine

open Sys2Proof Sys2Proof.Machine

/-- Settles O42: a valid configuration's parameters are positive and its reset values in range. -/
theorem invariantsHoldAtReset : Obligations.InvariantsHoldAtReset :=
  have reset {c : Config} (hc : c.Valid) (hlaw : LawOk c) : Inv (State.resetOf c) :=
    inv_resetOf hc hlaw (input := []) (by simp) [] []
  ⟨fun _ => reset, reset Config.refcfg_valid (lawOk_of_reference rfl)⟩

/-- Settles O43: a step idles or runs an operation issued in the stimulus sequence, on the state without its word. -/
theorem everyStepKeepsTheInvariants : Obligations.EveryStepKeepsTheInvariants := by
  intro s t hI h
  rcases step_cases h with ⟨-, rfl⟩ | ⟨x, rest, i, hs, hx, h⟩
  · exact hI
  · obtain ⟨hport, hrest⟩ := List.forall_mem_cons.mp (hs ▸ hI.stimulus_only)
    exact inv_exec (hI.withInput hrest) ((decode_of_admission hx).2.trans hport) h
end
